-- ==== Sys2Proof/Word.lean ====
section
/-! DEFINITION. The word types of the block (spec R10): bytes, 32-bit words, 32-bit millisecond times and 3-bit sequence
numbers. -/

namespace Sys2Proof

/-- A byte (R10). -/
abbrev Byte := BitVec 8

/-- A 32-bit word: a command word, an ARG, a register value, a RES (R10, R130). -/
abbrev Word := BitVec 32

/-- A NOW_MS value or a timeout, in milliseconds, modulo 2^32 (R10, R48). -/
abbrev Time := BitVec 32

/-- A sequence number, modulo 8 (R10, R34). -/
abbrev Seq := BitVec 3

end Sys2Proof
end

