-- ==== Sys2Proof/Syntax.lean ====
section
/-! DEFINITION. Requests, control octets and the instructions: one constructor for each row of spec/opcode_table.json. -/

namespace Sys2Proof

/-- A request to a port: the command word, the 32-bit argument and the data-in bytes (R130). -/
structure Request where
  cw : Word
  arg : Word
  din : List Byte
  deriving DecidableEq, Repr

/-- The instructions. The first twelve are the commands (R132), with the operands that R132 lets vary. The next three
are the host pseudo-operations (R147), which have no encoding; the answers of their host functions are their operands
(log 12). The last ten are the control octets (R141–R144): their meaning is the receipt of such a frame (log 10). -/
inductive Instr where
  /-- INIT (R471). -/
  | init
  /-- CLOSE (R472, R473). -/
  | close
  /-- STATUS (R474). -/
  | status
  /-- DISCONNECT (R475). -/
  | disconnect
  /-- TX_GET max_len (R476). -/
  | txGet (maxLen : BitVec 16)
  /-- RX_PUT of the bytes `din`; LEN is their number (R477). -/
  | rxPut (din : List Byte)
  /-- SEND_PACKET of the payload; LEN is its length (R478). -/
  | sendPacket (payload : List Byte)
  /-- GET_MTU (R480). -/
  | getMtu
  /-- SET_KA_TIMEOUT ms (R481). -/
  | setKaTimeout (ms : Time)
  /-- BUFFER_SIZE mtu, window, crc_code (R482). -/
  | bufferSize (mtu : BitVec 16) (window : Byte) (crc : Byte)
  /-- READ_REG reg (R483). -/
  | readReg (reg : Byte)
  /-- WRITE_REG reg, value (R484). -/
  | writeReg (reg : Byte) (value : Word)
  /-- RUN_TX with the answers of `write_fn`, signed, in call order (R490). -/
  | runTx (writes : List Word)
  /-- RUN_RX with the answers of `read_fn`, in call order; an error is an empty answer (R491). -/
  | runRx (reads : List (List Byte))
  /-- SEND of a buffer (R492). -/
  | send (buf : List Byte)
  /-- I frame (R141). -/
  | iFrame (ns : Seq) (pf : Bool) (nr : Seq)
  /-- RR frame (R142). -/
  | rr (pf : Bool) (nr : Seq)
  /-- REJ frame (R142). -/
  | rej (pf : Bool) (nr : Seq)
  /-- RNR frame (R142). -/
  | rnr (pf : Bool) (nr : Seq)
  /-- S frame of the reserved type 11 (R144). -/
  | sReserved (pf : Bool) (nr : Seq)
  /-- SABM (R143). -/
  | sabm
  /-- UA (R143). -/
  | ua
  /-- DISC (R143). -/
  | disc
  /-- FRMR (R143). -/
  | frmr
  /-- A U octet other than the four of R143, by its bits 7 to 2 (R144). -/
  | uReserved (kind : BitVec 6)
  deriving DecidableEq, Repr

end Sys2Proof
end

