-- ==== Sys2Proof/WellFormed.lean ====
section
/-! DEFINITION. Which terms of `Instr` stand for something the encodings can spell: LEN has 16 bits (R131), and a reserved
U octet is none of the four assigned ones (R143, R144). -/

namespace Sys2Proof

/-- Bits 7 to 2 of the four assigned U octets (R143): SABM, UA, DISC, FRMR. -/
def assignedU : List (BitVec 6) := [0b001011, 0b011000, 0b010000, 0b100001]

/-- The check. -/
def Instr.wf : Instr → Bool
  | .rxPut din => decide (din.length < 65536)
  | .sendPacket payload => decide (payload.length < 65536)
  | .uReserved kind => decide (kind ∉ assignedU)
  | .init | .close | .status | .disconnect | .txGet _ | .getMtu | .setKaTimeout _ | .bufferSize _ _ _ | .readReg _
  | .writeReg _ _ | .runTx _ | .runRx _ | .send _ | .iFrame _ _ _ | .rr _ _ | .rej _ _ | .rnr _ _ | .sReserved _ _
  | .sabm | .ua | .disc | .frmr => true

end Sys2Proof
end

