-- ==== Sys2Proof/Decode.lean ====
section
/-! DEFINITION. The decoder of requests and of control octets (R131–R134, R140–R144, R271), the encoder written from the
same tables (R131, R132, R146, R270), and the two read as one number the way spec/opcode_table.json numbers bits. -/

namespace Sys2Proof

/-- CW[7:0], the opcode (R131). -/
def opcOf (cw : Word) : Byte := cw.extractLsb' 0 8

/-- CW[15:8], the small operand (R131). -/
def idxOf (cw : Word) : Byte := cw.extractLsb' 8 8

/-- CW[31:16], the length operand (R131). -/
def lenOf (cw : Word) : BitVec 16 := cw.extractLsb' 16 16

/-- Why a request is malformed (R134). -/
inductive DecodeError where
  /-- The OPC is 0x00 or 0x0D to 0xFF. -/
  | reservedOpcode (opc : Byte)
  /-- A field that R132 marks 0 is nonzero. -/
  | unusedField
  /-- DIN breaks its row: not empty where it must be, or not exactly LEN bytes. -/
  | dinLength
  deriving DecidableEq, Repr

/-- The unused-field and DIN checks of one row: `zero` says that every field the row marks 0 is 0, `din` that DIN fits. -/
def checkRow (zero din : Bool) (i : Instr) : Except DecodeError Instr :=
  if zero = false then .error .unusedField
  else if din = false then .error .dinLength
  else .ok i

/-- A request read as a command (R132, R133), total, rejecting by name (R134). -/
def decodeRequest (r : Request) : Except DecodeError Instr :=
  let idx := idxOf r.cw
  let len := lenOf r.cw
  let plain := decide (idx = 0 ∧ len = 0 ∧ r.arg = 0)
  let noDin := r.din.isEmpty
  let lenDin := decide (r.din.length = len.toNat)
  match (opcOf r.cw).toNat with
  | 0x01 => checkRow plain noDin .init
  | 0x02 => checkRow plain noDin .close
  | 0x03 => checkRow plain noDin .status
  | 0x04 => checkRow plain noDin .disconnect
  | 0x05 => checkRow (decide (idx = 0 ∧ r.arg = 0)) noDin (.txGet len)
  | 0x06 => checkRow (decide (idx = 0 ∧ r.arg = 0)) lenDin (.rxPut r.din)
  | 0x07 => checkRow (decide (idx = 0 ∧ r.arg = 0)) lenDin (.sendPacket r.din)
  | 0x08 => checkRow plain noDin .getMtu
  | 0x09 => checkRow (decide (idx = 0 ∧ len = 0)) noDin (.setKaTimeout r.arg)
  | 0x0A => checkRow (decide (r.arg.extractLsb' 8 24 = 0)) noDin (.bufferSize len idx (r.arg.extractLsb' 0 8))
  | 0x0B => checkRow (decide (len = 0 ∧ r.arg = 0)) noDin (.readReg idx)
  | 0x0C => checkRow (decide (len = 0)) noDin (.writeReg idx r.arg)
  | _ => .error (.reservedOpcode (opcOf r.cw))

/-- The control octet of a received frame: Classify (R271), with the two BAD classes told apart. Total. -/
def decodeCtrl (c : Byte) : Instr :=
  let pf := c.getLsbD 4
  let nr : Seq := c.extractLsb' 5 3
  if c.getLsbD 0 = false then .iFrame (c.extractLsb' 1 3) pf nr
  else if c.getLsbD 1 = false then
    if c.extractLsb' 2 2 = 0b00#2 then .rr pf nr
    else if c.extractLsb' 2 2 = 0b01#2 then .rej pf nr
    else if c.extractLsb' 2 2 = 0b10#2 then .rnr pf nr
    else .sReserved pf nr
  else if c = 0x2F#8 then .sabm
  else if c = 0x63#8 then .ua
  else if c = 0x43#8 then .disc
  else if c = 0x87#8 then .frmr
  else .uReserved (c.extractLsb' 2 6)

/-! ## The encoder -/

/-- A spelled instruction: a request, or a control octet. -/
inductive Code where
  | request (r : Request)
  | octet (c : Byte)
  deriving DecidableEq, Repr

/-- CW from its fields: OPC | IDX << 8 | LEN << 16 (R131, R146). -/
def makeCw (opc idx : Byte) (len : BitVec 16) : Word :=
  opc.setWidth 32 ||| (idx.setWidth 32 <<< 8) ||| (len.setWidth 32 <<< 16)

/-- An I control octet (R141, R270). -/
def ctrlI (ns : Seq) (pf : Bool) (nr : Seq) : Byte :=
  (ns.setWidth 8 <<< 1) ||| ((BitVec.ofBool pf).setWidth 8 <<< 4) ||| (nr.setWidth 8 <<< 5)

/-- An S control octet of the two-bit type `ty` (R142, R270). -/
def ctrlS (ty : BitVec 2) (pf : Bool) (nr : Seq) : Byte :=
  0x01#8 ||| (ty.setWidth 8 <<< 2) ||| ((BitVec.ofBool pf).setWidth 8 <<< 4) ||| (nr.setWidth 8 <<< 5)

/-- A U control octet from its bits 7 to 2 (R143). -/
def ctrlU (kind : BitVec 6) : Byte := 0x03#8 ||| (kind.setWidth 8 <<< 2)

/-- The spelling of a well-formed instruction (R132, R146, R270); a pseudo-operation has none (R147). -/
def encode : Instr → Option Code
  | .init => some (.request ⟨makeCw 0x01 0 0, 0, []⟩)
  | .close => some (.request ⟨makeCw 0x02 0 0, 0, []⟩)
  | .status => some (.request ⟨makeCw 0x03 0 0, 0, []⟩)
  | .disconnect => some (.request ⟨makeCw 0x04 0 0, 0, []⟩)
  | .txGet maxLen => some (.request ⟨makeCw 0x05 0 maxLen, 0, []⟩)
  | .rxPut din => some (.request ⟨makeCw 0x06 0 (BitVec.ofNat 16 din.length), 0, din⟩)
  | .sendPacket payload => some (.request ⟨makeCw 0x07 0 (BitVec.ofNat 16 payload.length), 0, payload⟩)
  | .getMtu => some (.request ⟨makeCw 0x08 0 0, 0, []⟩)
  | .setKaTimeout ms => some (.request ⟨makeCw 0x09 0 0, ms, []⟩)
  | .bufferSize mtu window crc => some (.request ⟨makeCw 0x0A window mtu, crc.setWidth 32, []⟩)
  | .readReg reg => some (.request ⟨makeCw 0x0B reg 0, 0, []⟩)
  | .writeReg reg value => some (.request ⟨makeCw 0x0C reg 0, value, []⟩)
  | .runTx _ => none
  | .runRx _ => none
  | .send _ => none
  | .iFrame ns pf nr => some (.octet (ctrlI ns pf nr))
  | .rr pf nr => some (.octet (ctrlS 0b00 pf nr))
  | .rej pf nr => some (.octet (ctrlS 0b01 pf nr))
  | .rnr pf nr => some (.octet (ctrlS 0b10 pf nr))
  | .sReserved pf nr => some (.octet (ctrlS 0b11 pf nr))
  | .sabm => some (.octet 0x2F)
  | .ua => some (.octet 0x63)
  | .disc => some (.octet 0x43)
  | .frmr => some (.octet 0x87)
  | .uReserved kind => some (.octet (ctrlU kind))

/-- The decoder on either spelling. -/
def decodeCode : Code → Except DecodeError Instr
  | .request r => decodeRequest r
  | .octet c => .ok (decodeCtrl c)

/-! ## The opcode table's numbering -/

/-- Does a table word of `nbits` bits spell a control octet? Words of up to 8 bits do, but for 0x0A: the table fixes only
the 8 OPC bits of BUFFER_SIZE, so its row may be given 8 bits, and that word is read as its command word (log 17). -/
def isOctetWord (nbits w : Nat) : Bool := decide (nbits ≤ 8 ∧ w ≠ 0x0A)

/-- The request of a table word: CW is the word, every bit above is 0, and DIN of RX_PUT and SEND_PACKET is LEN zero
bytes (R132). -/
def tableRequest (w : Nat) : Request :=
  let cw : Word := BitVec.ofNat 32 w
  let n := if opcOf cw = 0x06 ∨ opcOf cw = 0x07 then (lenOf cw).toNat else 0
  ⟨cw, 0, List.replicate n 0⟩

/-- The instruction the decoder reads from a table word: bit 0 of `w` is the least significant bit of CW or of the
control octet. -/
def decodeTableWord (nbits w : Nat) : Option Instr :=
  if nbits = 0 then none
  else if isOctetWord nbits w then some (decodeCtrl (BitVec.ofNat 8 w))
  else match decodeRequest (tableRequest w) with
    | .ok i => some i
    | .error _ => none

end Sys2Proof
end

