-- ==== Sys2Proof/Config.lean ====
section
/-! DEFINITION. The fixed constants of the block (R6), its open parameters (R7) and the one family of free values, the
contents of internal RAM that nothing has written (U7). -/

namespace Sys2Proof

/-- FLAG, the octet that delimits frames (R6). -/
def Config.flag : Byte := 0x7E

/-- ESC, the escape octet (R6). -/
def Config.esc : Byte := 0x7D

/-- The XOR mask of the escape (R6). -/
def Config.escMask : Byte := 0x20

/-- ADDR, the one frame address (R6). -/
def Config.addr : Byte := 0xFF

/-- HEADER, the bytes of address and control (R6). -/
def Config.header : Nat := 2

/-- WINDOW_MAX (R6). -/
def Config.windowMax : Nat := 7

/-- The parameters of R7. The fields hold them so that every value is in its legal range: MTU_MAX is
`mtuMaxPred + 1` and N_APP is `nAppPred + 1`. -/
structure Params where
  mtuMaxPred : Fin 65535
  bufBytes : Nat
  slotOverhead : Nat
  fixedOverhead : Nat
  nAppPred : Nat
  deriving DecidableEq, Repr, Inhabited

/-- MTU_MAX, 1 to 65535 (R7). -/
def Params.mtuMax (p : Params) : Nat := p.mtuMaxPred.val + 1

/-- N_APP, at least 1 (R7). -/
def Params.nApp (p : Params) : Nat := p.nAppPred + 1

/-- The parameters of the block that `State.reset` describes: open in the spec (R7), so they have no body here. State holds
the parameters as a constant, so that a statement takes every value of them (log 4). -/
opaque Config.params : Params

/-- The three kinds of internal byte storage (R100). -/
inductive Ram where
  | slot (i : Nat)
  | rx
  | tx
  deriving DecidableEq, Repr

/-- The byte that an address of a storage reads as before anything is written there: "any value" (U7), a free value
with no body (log 5). -/
opaque Config.unwrittenByte : Ram → Nat → Byte

end Sys2Proof
end

