-- ==== Sys2Proof/Machine/State.lean ====
section
/-! DEFINITION. The state of the block (10_state.md), every field plain data, and its value after hardware reset (R49). -/

namespace Sys2Proof.Machine

/-- The FSM register (R33); the values 5 to 7 never occur. -/
inductive Fsm where
  | uninit
  | disconnected
  | connecting
  | connected
  | disconnecting
  deriving DecidableEq, Repr

/-- The state of a send slot (R42). -/
inductive SlotState where
  | free
  | queued
  | inFlight
  | awaitingAck
  | acked
  | failed
  deriving DecidableEq, Repr

/-- `dec_state` (R43). -/
inductive DecState where
  | hunt
  | reading
  | escape
  deriving DecidableEq, Repr

/-- `enc_phase` (R44): IDLE, OPEN, BODY, ESC, CLOSE. -/
inductive EncPhase where
  | idle
  | openFlag
  | body
  | esc
  | closeFlag
  deriving DecidableEq, Repr

/-- Internal byte storage (R100): the bytes written, by address, addresses strictly rising. An address not listed has not
been written and reads as a free value (U7, log 5). -/
abbrev Memory := List Host.Cell

/-- The configuration registers (R39). -/
structure Cfg where
  mtu : BitVec 16
  window : BitVec 3
  crc : Byte
  sendTimeout : Time
  retryTimeout : Time
  retries : BitVec 8
  kaTimeout : Time
  ackDefer : Time
  acceptDisc : Bool
  deriving DecidableEq, Repr

/-- The effective configuration, latched by INIT (R40). `window` is W. -/
structure Eff where
  mtu : BitVec 16
  window : BitVec 3
  crcCode : Byte
  crcLen : Byte
  sendTimeout : Time
  retryTimeout : Time
  retries : BitVec 8
  kaTimeout : Time
  ackDefer : Time
  acceptDisc : Bool
  deriving DecidableEq, Repr

/-- The window registers (R34). -/
structure Window where
  nextNs : Seq
  confirmNs : Seq
  nextNr : Seq
  lastNrSent : Seq
  deriving DecidableEq, Repr

/-- The acknowledgement and control flags (R35). -/
structure Flags where
  peerBusy : Bool
  rejSent : Bool
  rejOwed : Bool
  ackOwed : Bool
  pollOwed : Bool
  frmrOwed : Bool
  uaOwed : Bool
  sabmPending : Bool
  discPending : Bool
  uTimerRunning : Bool
  deriving DecidableEq, Repr

/-- The counters (R36, R38, R45). -/
structure Counters where
  uRetriesLeft : BitVec 8
  kaUnanswered : BitVec 16
  failGen : Word
  crcErrCnt : Word
  deriving DecidableEq, Repr

/-- The timestamp registers (R37). -/
structure Times where
  lastTx : Time
  ackSince : Time
  uSentAt : Time
  connBase : Time
  connWait : Time
  deriving DecidableEq, Repr

/-- A send slot (R42) with its payload storage SlotRAM (R100). -/
structure Slot where
  state : SlotState
  seq : Seq
  retriesLeft : BitVec 8
  len : BitVec 16
  sentAt : Time
  ram : Memory
  deriving DecidableEq, Repr

/-- The send ring (R41). Seven slots stand here; the session has the first W of them. -/
structure Ring where
  head : BitVec 3
  count : BitVec 3
  slots : List Slot
  deriving DecidableEq, Repr

/-- The decoder (R43) with RxBuf (R100). `lenOver` is the model's own bit: whether more than 65535 bytes are stored, of which
`dec_len` holds the low 16 bits of the number (log 6). -/
structure Decoder where
  state : DecState
  len : BitVec 16
  lenOver : Bool
  buf : Memory
  deriving DecidableEq, Repr

/-- The encoder (R44) with TxBuf (R100). `txfLenOver` and `txfPosOver` are the model's own bits, the carry out of `txf_len` and of
`txf_pos` (log 6). -/
structure Encoder where
  phase : EncPhase
  lastFlag : Bool
  buf : Memory
  txfLen : BitVec 16
  txfLenOver : Bool
  txfPos : BitVec 16
  txfPosOver : Bool
  txfSlotValid : Bool
  txfSlot : BitVec 3
  deriving DecidableEq, Repr

/-- The status of a SENT event (R536). -/
inductive SentStatus where
  | ok
  | failed
  deriving DecidableEq, Repr

/-- The three events (R536). -/
inductive Event where
  | frame (addr : Byte) (payload : List Byte)
  | sent (status : SentStatus) (addr : Byte) (payload : List Byte)
  | framerError
  deriving DecidableEq, Repr

/-- A response: RES, signed 32 bits, and DOUT (R130, R136). -/
structure Response where
  res : Word
  dout : List Byte
  deriving DecidableEq, Repr

/-- The command state of a port (R46). -/
inductive Cmd where
  | idle
  /-- A TX_GET in progress: the bytes it may still return, the DOUT so far, and whether its loop has ended, so that only
  the epilogue is left. -/
  | txGet (left : BitVec 16) (dout : List Byte) (ended : Bool)
  /-- An RX_PUT in progress: the DIN bytes not yet consumed. -/
  | rxPut (din : List Byte)
  /-- A held SEND_PACKET: its payload, NOW_MS and `fail_gen` at issue. -/
  | sendPacket (payload : List Byte) (tIssue : Time) (gen : Word)
  /-- A CLOSE that has run phase 1. -/
  | close
  deriving DecidableEq, Repr

/-- What a host agent presents at its port: a request, or a host pseudo-operation with the answers of its host function
(R147, log 12). -/
inductive HostOp where
  | request (r : Request)
  | runTx (writes : List Word)
  | runRx (reads : List (List Byte))
  | send (buf : List Byte)
  deriving DecidableEq, Repr

/-- Where a host pseudo-operation stands (R490, R491, R492). -/
inductive Proc where
  /-- RUN_TX is about to issue TX_GET 4. -/
  | runTxGet (total : Nat) (writes : List Word)
  /-- RUN_TX waits for the response of its TX_GET 4. -/
  | runTxWait (total : Nat) (writes : List Word)
  /-- RUN_TX is about to call `write_fn(bytes)`. -/
  | runTxWrite (total : Nat) (writes : List Word) (bytes : List Byte)
  /-- RUN_RX is about to call `read_fn(4)`. -/
  | runRxRead (total : Nat) (reads : List (List Byte))
  /-- RUN_RX waits for the response of its RX_PUT of `n` bytes. -/
  | runRxWait (total : Nat) (reads : List (List Byte)) (n : Nat)
  /-- SEND is about to issue GET_MTU. -/
  | sendMtu (buf : List Byte)
  /-- SEND waits for the response of its GET_MTU. -/
  | sendMtuWait (buf : List Byte)
  /-- SEND is at the head of its loop: `m` is the answer of GET_MTU, `sent` the bytes enqueued. -/
  | sendLoop (buf : List Byte) (m : Word) (sent : Nat)
  /-- SEND waits for the response of its SEND_PACKET of `k` bytes. -/
  | sendWait (buf : List Byte) (m : Word) (sent : Nat) (k : Nat)
  deriving DecidableEq, Repr

/-- A port: its command state (R46) and event channel (R47); and, on the host's side of it, the requests waiting (R470),
the responses given (R130), the host procedure that runs and the response it has yet to read (log 2, log 12). -/
structure Port where
  cmd : Cmd
  events : List Event
  queue : List HostOp
  responses : List Response
  proc : Option Proc
  reply : Option Response
  deriving DecidableEq, Repr

/-- The ports (D2). -/
inductive PortId where
  | app (n : Nat)
  | txp
  | rxp
  deriving DecidableEq, Repr

/-- What the schedule may say happens next. -/
inductive Action where
  /-- The next micro-step of a port: it accepts a waiting request, or goes on with its command. -/
  | run (p : PortId)
  /-- The host takes the event at the head of a port's channel (R47). -/
  | takeEvent (p : PortId)
  /-- Hardware reset (R570). -/
  | reset
  deriving DecidableEq, Repr

/-- One entry of the schedule: the NOW_MS sample (R48) and what happens. -/
structure Tick where
  now : Time
  act : Action
  deriving DecidableEq, Repr

/-- The state (R30). `params` is the constant of R7 that the model takes as an argument; no step changes it (log 4). `now`,
`port` and `ticks` are the model's own: the sample and the port of the current micro-step, and the schedule of the
micro-steps to come (R116; log 1, log 3). -/
structure State where
  params : Params
  cfg : Cfg
  eff : Eff
  fsm : Fsm
  closing : Bool
  win : Window
  flag : Flags
  ctr : Counters
  tim : Times
  ring : Ring
  dec : Decoder
  enc : Encoder
  txp : Port
  rxp : Port
  apps : List Port
  now : Time
  port : PortId
  ticks : List Tick
  deriving DecidableEq, Repr

/-- Why the machine stops with a fault. -/
inductive Fault where
  /-- The schedule names an APP port that the block does not have (R46). Raised by `step`; safe: the spec gives such an
  input no effect (log 20). -/
  | noSuchPort (p : PortId)
  deriving DecidableEq, Repr

/-- Why an instruction has no meaning. -/
inductive Refusal where
  /-- The instruction has no meaning yet. Raised by a refused arm of `exec`; safe. No arm is refused. -/
  | notModelled (mnemonic : String)
  deriving DecidableEq, Repr

/-- The configuration registers after hardware reset (R39). -/
def Cfg.reset : Cfg := ⟨0, 0, 0, 0, 0, 0, 0, 0, false⟩

/-- The effective registers after hardware reset (R40). -/
def Eff.reset : Eff := ⟨0, 0, 0, 0, 0, 0, 0, 0, 0, false⟩

/-- The window registers after hardware reset and INIT (R34). -/
def Window.reset : Window := ⟨0, 0, 0, 0⟩

/-- The flags after hardware reset and INIT (R35). -/
def Flags.reset : Flags := ⟨false, false, false, false, false, false, false, false, false, false⟩

/-- The counters after hardware reset (R36, R38, R45). -/
def Counters.reset : Counters := ⟨0, 0, 0, 0⟩

/-- The timestamps after hardware reset (R37). -/
def Times.reset : Times := ⟨0, 0, 0, 0, 0⟩

/-- A slot after hardware reset and INIT (R42): FREE, every field 0, payload unspecified. -/
def Slot.reset : Slot := ⟨.free, 0, 0, 0, 0, []⟩

/-- The ring after hardware reset and INIT (R41). -/
def Ring.reset : Ring := ⟨0, 0, List.replicate 7 Slot.reset⟩

/-- The decoder after hardware reset and INIT (R43). -/
def Decoder.reset : Decoder := ⟨.hunt, 0, false, []⟩

/-- The encoder after hardware reset and INIT (R44). -/
def Encoder.reset : Encoder := ⟨.idle, false, [], 0, false, 0, false, false, 0⟩

/-- A port after hardware reset: idle, its channel empty (R46, R47), and nothing presented by the host (log 2). -/
def Port.reset : Port := ⟨.idle, [], [], [], none, none⟩

/-- The block right after hardware reset (R49, R570). -/
def State.reset : State where
  params := Config.params
  cfg := Cfg.reset
  eff := Eff.reset
  fsm := .uninit
  closing := false
  win := Window.reset
  flag := Flags.reset
  ctr := Counters.reset
  tim := Times.reset
  ring := Ring.reset
  dec := Decoder.reset
  enc := Encoder.reset
  txp := Port.reset
  rxp := Port.reset
  apps := List.replicate Config.params.nApp Port.reset
  now := 0
  port := .app 0
  ticks := []

end Sys2Proof.Machine
end

