-- ==== Sys2Proof/Machine/Ops.lean ====
section
/-! DEFINITION. The shared operations: internal RAM (R11, R100), the field groups of State, ports, responses and events
(R130, R136, R47), slots and ring order (R41), and the two ways a request is turned away (R470). The block takes no
exception (R530): a request it refuses is answered with a negative RES by `refuse`, the counterpart of an exception entry
here. -/

namespace Sys2Proof.Machine

/-! ## Internal RAM -/

/-- The canonical form of a storage: addresses strictly rising. -/
def Memory.wf : Memory → Bool
  | [] => true
  | [_] => true
  | a :: b :: rest => decide (a.1 < b.1) && Memory.wf (b :: rest)

/-- The byte written at an address, or none where nothing has been written. -/
def Memory.find : Memory → Nat → Option Byte
  | [], _ => none
  | c :: rest, a => if c.1 = a then some c.2 else Memory.find rest a

/-- The byte read at an address of the storage `r`: unwritten bytes are free values (U7, log 5). -/
def Memory.read (m : Memory) (r : Ram) (a : Nat) : Byte := (Memory.find m a).getD (Config.unwrittenByte r a)

/-- Write one byte. -/
def Memory.write : Memory → Nat → Byte → Memory
  | [], a, v => [(a, v)]
  | c :: rest, a, v =>
    if a < c.1 then (a, v) :: c :: rest
    else if c.1 = a then (a, v) :: rest
    else c :: Memory.write rest a v

/-- MemRead(ram, addr, n) (R11). -/
def memRead (m : Memory) (r : Ram) (a n : Nat) : List Byte := (List.range n).map (fun k => m.read r (a + k))

/-- MemWrite(ram, addr, n, v) with `n` the length of `v` (R11). -/
def memWrite (m : Memory) (a : Nat) : List Byte → Memory
  | [] => m
  | v :: vs => memWrite (m.write a v) (a + 1) vs

/-! ## Frame lengths (R43, R44) -/

/-- The number that a 16-bit length and its carry stand for (log 6). -/
def wide (n : BitVec 16) (carry : Bool) : Nat := n.toNat + if carry then 65536 else 0

/-- The number of destuffed bytes stored in RxBuf for the frame in progress (R43). -/
def Decoder.stored (d : Decoder) : Nat := wide d.len d.lenOver

/-- No byte is stored: `dec_len` is 0 (R238). -/
def Decoder.clear (d : Decoder) : Decoder := { d with len := 0, lenOver := false }

/-- A byte is written to RxBuf at index `dec_len`, and `dec_len` incremented (R102, R238). -/
def Decoder.push (v : Byte) (d : Decoder) : Decoder :=
  { d with buf := d.buf.write d.stored v, len := d.len + 1, lenOver := decide (65536 ≤ d.stored + 1) }

/-- The length of the frame in TxBuf (R44). -/
def Encoder.txfBytes (e : Encoder) : Nat := wide e.txfLen e.txfLenOver

/-- The index of the next byte of TxBuf to emit (R44). -/
def Encoder.txfNext (e : Encoder) : Nat := wide e.txfPos e.txfPosOver

/-- A frame is written to TxBuf from index 0, and `txf_len` is its length (R274). What TxBuf holds beyond the frame, which U7 leaves
open, stays as it was: the model's choice (log 27). -/
def Encoder.stage (frame : List Byte) (e : Encoder) : Encoder :=
  { e with
    buf := memWrite e.buf 0 frame
    txfLen := BitVec.ofNat 16 frame.length
    txfLenOver := decide (65536 ≤ frame.length) }

/-- The index is at the frame's first byte (R233). -/
def Encoder.atStart (e : Encoder) : Encoder := { e with txfPos := 0, txfPosOver := false }

/-- The index moves on by one byte (R233). -/
def Encoder.advance (e : Encoder) : Encoder :=
  { e with txfPos := e.txfPos + 1, txfPosOver := decide (65536 ≤ e.txfNext + 1) }

/-! ## Field groups -/

def State.modWin (s : State) (f : Window → Window) : State := { s with win := f s.win }

def State.modFlag (s : State) (f : Flags → Flags) : State := { s with flag := f s.flag }

def State.modCtr (s : State) (f : Counters → Counters) : State := { s with ctr := f s.ctr }

def State.modTim (s : State) (f : Times → Times) : State := { s with tim := f s.tim }

def State.modRing (s : State) (f : Ring → Ring) : State := { s with ring := f s.ring }

def State.modDec (s : State) (f : Decoder → Decoder) : State := { s with dec := f s.dec }

def State.modEnc (s : State) (f : Encoder → Encoder) : State := { s with enc := f s.enc }

def State.setFsm (s : State) (x : Fsm) : State := { s with fsm := x }

/-! ## Ports -/

/-- The port, where the block has it (R46). -/
def State.port? (s : State) : PortId → Option Port
  | .txp => some s.txp
  | .rxp => some s.rxp
  | .app n => s.apps[n]?

/-- Change one port. -/
def State.modPort (s : State) (p : PortId) (f : Port → Port) : State :=
  match p with
  | .txp => { s with txp := f s.txp }
  | .rxp => { s with rxp := f s.rxp }
  | .app n => { s with apps := s.apps.modify n f }

/-- emit(ev) to a port's event channel (R11, R47). -/
def emit (p : PortId) (ev : Event) (s : State) : State :=
  s.modPort p (fun q => { q with events := q.events ++ [ev] })

/-- The port of the current micro-step is busy with a command (R46). -/
def setCmd (c : Cmd) (s : State) : State := s.modPort s.port (fun q => { q with cmd := c })

/-- A response reaches a port: it becomes idle, and the response goes to the host procedure that runs there, or else to the
host (R130, R470; log 2). -/
def Port.answer (r : Response) (q : Port) : Port :=
  match q.proc with
  | none => { q with cmd := .idle, responses := q.responses ++ [r] }
  | some _ => { q with cmd := .idle, reply := some r }

/-- `return RES` with DOUT at the port of the current micro-step (R11, R136). -/
def respond (res : Word) (dout : List Byte) (s : State) : State := s.modPort s.port (Port.answer ⟨res, dout⟩)

/-! ## Result codes (R531) -/

def Res.success : Word := 0#32
def Res.failed : Word := 0xFFFFFFFF#32
def Res.timeout : Word := 0xFFFFFFFE#32
def Res.dataTooLarge : Word := 0xFFFFFFFD#32
def Res.invalidData : Word := 0xFFFFFFFC#32
def Res.busy : Word := 0xFFFFFFFB#32

/-- A request is turned away with a negative RES: DOUT empty and nothing else changed (R134, R470, R530, R533). -/
def refuse (code : Word) (s : State) : State := respond code [] s

/-- Step 3 of the checks of R470: a command that needs a session is INVALID_DATA in UNINIT. -/
def inSession (k : State → State) (s : State) : State := if s.fsm = .uninit then refuse Res.invalidData s else k s

/-- Is this an APP port? -/
def PortId.isApp : PortId → Bool
  | .app _ => true
  | .txp => false
  | .rxp => false

/-! ## Slots and ring order (R41, R300) -/

/-- W as a number. -/
def State.w (s : State) : Nat := s.eff.window.toNat

/-- Slot i. -/
def State.slot (s : State) (i : Nat) : Slot := s.ring.slots.getD i Slot.reset

/-- Change slot i. -/
def State.modSlot (s : State) (i : Nat) (f : Slot → Slot) : State :=
  s.modRing (fun r => { r with slots := r.slots.modify i f })

/-- The index of the j-th slot from `head`, taken mod W (R41). -/
def State.ringIndex (s : State) (j : Nat) : Nat := (s.ring.head.toNat + j) % s.w

/-- The occupied slots in ring order (R41). -/
def State.ringOrder (s : State) : List Nat := (List.range s.ring.count.toNat).map s.ringIndex

/-- The first slot in ring order that satisfies `p`. -/
def State.firstSlot (s : State) (p : Slot → Bool) : Option Nat := s.ringOrder.find? (fun i => p (s.slot i))

/-- The payload of slot i: MemRead(SlotRAM[i], 0, len) (R104). -/
def State.slotPayload (s : State) (i : Nat) : List Byte := memRead (s.slot i).ram (.slot i) 0 (s.slot i).len.toNat

/-- Is the slot IN_FLIGHT or AWAITING_ACK, a *sent* slot of R303? -/
def Slot.isSent (x : Slot) : Bool := decide (x.state = .inFlight ∨ x.state = .awaitingAck)

/-- Is the slot ACKED or FAILED, a *finished* slot of R303? -/
def Slot.isFinished (x : Slot) : Bool := decide (x.state = .acked ∨ x.state = .failed)

/-- Is the slot QUEUED, IN_FLIGHT or AWAITING_ACK, one that FailPending fails (R410)? -/
def Slot.isPending (x : Slot) : Bool :=
  decide (x.state = .queued ∨ x.state = .inFlight ∨ x.state = .awaitingAck)

/-- Put every slot that satisfies `p` into the state `st`. -/
def State.markSlots (s : State) (p : Slot → Bool) (st : SlotState) : State :=
  s.modRing (fun r => { r with slots := r.slots.map (fun x => if p x then { x with state := st } else x) })

/-- The slot is freed: FREE and every field 0, its storage as it is (R307). -/
def Slot.freed (x : Slot) : Slot := { x with state := .free, seq := 0, retriesLeft := 0, len := 0, sentAt := 0 }

end Sys2Proof.Machine
end

