-- ==== Sys2Proof/Machine/Crc.lean ====
section
/-! DEFINITION. Unit A, the CRC codec (40_crc.md): pure functions over byte lists. -/

namespace Sys2Proof.Machine

/-- The CRC kinds (R200). -/
inductive CrcKind where
  | none
  | crc8
  | crc16
  | crc32
  deriving DecidableEq, Repr

/-- One round of CRC-8 (R201). -/
def crc8Round (c : BitVec 8) : BitVec 8 := if c.getLsbD 7 then (c <<< 1) ^^^ 0x07#8 else c <<< 1

/-- Crc8 (R201). -/
def crc8 (data : List Byte) : BitVec 8 := data.foldl (fun c b => Nat.repeat crc8Round 8 (c ^^^ b)) 0xFF#8

/-- One round of CRC-16 (R202). -/
def crc16Round (c : BitVec 16) : BitVec 16 := if c.getLsbD 15 then (c <<< 1) ^^^ 0x1021#16 else c <<< 1

/-- A byte entering the CRC-16 register at bits 15:8 (R202). -/
def crc16Enter (b : Byte) : BitVec 16 := b.setWidth 16 <<< 8

/-- Crc16, CRC-16/CCITT-FALSE (R202, log 23). -/
def crc16 (data : List Byte) : BitVec 16 :=
  data.foldl (fun c b => Nat.repeat crc16Round 8 (c ^^^ crc16Enter b)) 0xFFFF#16

/-- One round of CRC-32 (R203). -/
def crc32Round (c : BitVec 32) : BitVec 32 := if c.getLsbD 0 then (c >>> 1) ^^^ 0xEDB88320#32 else c >>> 1

/-- Crc32, reflected (R203). -/
def crc32 (data : List Byte) : BitVec 32 :=
  (data.foldl (fun c b => Nat.repeat crc32Round 8 (c ^^^ b.setWidth 32)) 0xFFFFFFFF#32) ^^^ 0xFFFFFFFF#32

/-- The low `n` bytes of a value, bits 7:0 first (R106, R107). -/
def leBytes {w : Nat} (v : BitVec w) (n : Nat) : List Byte := (List.range n).map (fun k => v.extractLsb' (8 * k) 8)

/-- `crc_len` (R200). -/
def CrcKind.len : CrcKind → Nat
  | .none => 0
  | .crc8 => 1
  | .crc16 => 2
  | .crc32 => 4

/-- CrcBytes (R204). -/
def crcBytes (k : CrcKind) (data : List Byte) : List Byte :=
  match k with
  | .none => []
  | .crc8 => [crc8 data]
  | .crc16 => leBytes (crc16 data) 2
  | .crc32 => leBytes (crc32 data) 4

/-- The kind of a legal CRC code, DEFAULT resolved to CRC-16 (R200, R207). -/
def crcKindOf (code : Byte) : Option CrcKind :=
  if code = 0x00#8 then some .crc16
  else if code = 0x08#8 then some .crc8
  else if code = 0x10#8 then some .crc16
  else if code = 0x20#8 then some .crc32
  else if code = 0xFF#8 then some .none
  else none

/-- The code INIT latches for a legal CRC code (R207). -/
def crcResolve (code : Byte) : Byte := if code = 0x00#8 then 0x10#8 else code

/-- The CRC kind of the session, from the effective code. The effective code is 0 only in UNINIT, where nothing uses the
kind; it goes with `crc_len` 0 there (log 22). -/
def State.crcKind (s : State) : CrcKind :=
  if s.eff.crcCode = 0x00#8 then .none else (crcKindOf s.eff.crcCode).getD .none

end Sys2Proof.Machine
end

