-- ==== Sys2Proof/Machine/Operands.lean ====
section
/-! DEFINITION. What an instruction's operands name: the register file (R137–R139), the payload of a received frame (R371)
and the size function (R485). -/

namespace Sys2Proof.Machine

/-! ## Register encodings (R137, R139) -/

def Fsm.code : Fsm → BitVec 3
  | .uninit => 0
  | .disconnected => 1
  | .connecting => 2
  | .connected => 3
  | .disconnecting => 4

def SlotState.code : SlotState → BitVec 3
  | .free => 0
  | .queued => 1
  | .inFlight => 2
  | .awaitingAck => 3
  | .acked => 4
  | .failed => 5

def DecState.code : DecState → BitVec 2
  | .hunt => 0
  | .reading => 1
  | .escape => 2

def EncPhase.code : EncPhase → BitVec 3
  | .idle => 0
  | .openFlag => 1
  | .body => 2
  | .esc => 3
  | .closeFlag => 4

/-- A field placed with its lowest bit at `lo` of a 32-bit register. -/
def field {w : Nat} (v : BitVec w) (lo : Nat) : Word := v.setWidth 32 <<< lo

/-- A one-bit field at `lo`. -/
def bit (b : Bool) (lo : Nat) : Word := field (BitVec.ofBool b) lo

/-- STATE, 0x20 (R139). Bit 4 is 1 in CONNECTED also while closing, against the example of R472: the model's choice (log 24). -/
def State.stateReg (s : State) : Word :=
  field s.fsm.code 0 ||| bit s.closing 3 ||| bit (decide (s.fsm = .connected)) 4

/-- SEQ, 0x21 (R139). -/
def State.seqReg (s : State) : Word :=
  field s.win.nextNs 0 ||| field s.win.confirmNs 4 ||| field s.win.nextNr 8 ||| field s.win.lastNrSent 12 |||
  bit s.flag.peerBusy 16 ||| bit s.flag.rejSent 17 ||| bit s.flag.rejOwed 18 ||| bit s.flag.ackOwed 19 |||
  bit s.flag.pollOwed 20 ||| bit s.flag.frmrOwed 21 ||| bit s.flag.uaOwed 22 ||| bit s.flag.sabmPending 23 |||
  bit s.flag.discPending 24 ||| bit s.flag.uTimerRunning 25

/-- RING, 0x22 (R139). -/
def State.ringReg (s : State) : Word :=
  field s.ring.head 0 ||| field s.ring.count 4 ||| field s.ctr.uRetriesLeft 8 ||| field s.ctr.kaUnanswered 16

/-- CODEC, 0x23 (R139). -/
def State.codecReg (s : State) : Word :=
  field s.dec.state.code 0 ||| field s.enc.phase.code 2 ||| bit s.enc.lastFlag 5 ||| field s.dec.len 16

/-- SLOT_i, 0x30 + i; 0 for i ≥ W (R138, R139). -/
def State.slotReg (s : State) (i : Nat) : Word :=
  if i < s.w then
    field (s.slot i).state.code 0 ||| field (s.slot i).seq 4 ||| field (s.slot i).retriesLeft 8 ||| field (s.slot i).len 16
  else 0#32

/-- SLOT_SENT_AT_i, 0x38 + i; 0 for i ≥ W (R138). -/
def State.slotSentAtReg (s : State) (i : Nat) : Word := if i < s.w then (s.slot i).sentAt else 0#32

/-- The register of a number, or none where the number is reserved (R137, R138). A read has no side effect. -/
def State.readRegister (s : State) (n : Byte) : Option Word :=
  match n.toNat with
  | 0x00 => some (field s.cfg.mtu 0)
  | 0x01 => some (field s.cfg.window 0)
  | 0x02 => some (field s.cfg.crc 0)
  | 0x03 => some s.cfg.sendTimeout
  | 0x04 => some s.cfg.retryTimeout
  | 0x05 => some (field s.cfg.retries 0)
  | 0x06 => some s.cfg.kaTimeout
  | 0x07 => some s.cfg.ackDefer
  | 0x08 => some (bit s.cfg.acceptDisc 0)
  | 0x10 => some (field s.eff.mtu 0)
  | 0x11 => some (field s.eff.window 0)
  | 0x12 => some (field s.eff.crcCode 0 ||| field s.eff.crcLen 8)
  | 0x13 => some s.eff.sendTimeout
  | 0x14 => some s.eff.retryTimeout
  | 0x15 => some (field s.eff.retries 0)
  | 0x16 => some s.eff.kaTimeout
  | 0x17 => some s.eff.ackDefer
  | 0x18 => some (bit s.eff.acceptDisc 0)
  | 0x20 => some s.stateReg
  | 0x21 => some s.seqReg
  | 0x22 => some s.ringReg
  | 0x23 => some s.codecReg
  | 0x24 => some s.ctr.crcErrCnt
  | 0x25 => some (field s.enc.txfLen 0 ||| field s.enc.txfPos 16)
  | 0x26 => some s.tim.lastTx
  | 0x27 => some s.tim.ackSince
  | 0x28 => some s.tim.uSentAt
  | 0x29 => some s.tim.connBase
  | 0x2A => some s.tim.connWait
  | 0x2B => some s.ctr.failGen
  | 0x2C => some (field s.enc.txfSlot 0 ||| bit s.enc.txfSlotValid 3)
  | 0x30 => some (s.slotReg 0)
  | 0x31 => some (s.slotReg 1)
  | 0x32 => some (s.slotReg 2)
  | 0x33 => some (s.slotReg 3)
  | 0x34 => some (s.slotReg 4)
  | 0x35 => some (s.slotReg 5)
  | 0x36 => some (s.slotReg 6)
  | 0x38 => some (s.slotSentAtReg 0)
  | 0x39 => some (s.slotSentAtReg 1)
  | 0x3A => some (s.slotSentAtReg 2)
  | 0x3B => some (s.slotSentAtReg 3)
  | 0x3C => some (s.slotSentAtReg 4)
  | 0x3D => some (s.slotSentAtReg 5)
  | 0x3E => some (s.slotSentAtReg 6)
  | _ => none

/-- The CFG registers after a write of ARG masked to the register's layout, or none where the number is reserved or
read-only (R137, R138, R484). -/
def Cfg.write (c : Cfg) (n : Byte) (v : Word) : Option Cfg :=
  match n.toNat with
  | 0x00 => some { c with mtu := v.extractLsb' 0 16 }
  | 0x01 => some { c with window := v.extractLsb' 0 3 }
  | 0x02 => some { c with crc := v.extractLsb' 0 8 }
  | 0x03 => some { c with sendTimeout := v }
  | 0x04 => some { c with retryTimeout := v }
  | 0x05 => some { c with retries := v.extractLsb' 0 8 }
  | 0x06 => some { c with kaTimeout := v }
  | 0x07 => some { c with ackDefer := v }
  | 0x08 => some { c with acceptDisc := v.getLsbD 0 }
  | _ => none

/-! ## Sizes -/

/-- BufferSizeByMtu(m, w, k) for a legal code k; none for an illegal one (R485). -/
def bufferSizeByMtu (p : Params) (m w : Nat) (k : Byte) : Option Nat :=
  (crcKindOf k).map (fun kind =>
    w * (m + Config.header + kind.len + p.slotOverhead) + (m + Config.header + kind.len) + p.fixedOverhead)

/-- The largest legal destuffed interior, the capacity of RxBuf: mtu + 2 + crc_len (R100, R243). -/
def State.rxCapacity (s : State) : Nat := s.eff.mtu.toNat + Config.header + s.eff.crcLen.toNat

/-! ## The received frame -/

/-- The payload of the frame in RxBuf: the bytes after the control octet and before the CRC (R371). -/
def State.rxPayload (s : State) : List Byte :=
  memRead s.dec.buf .rx 2 (s.dec.stored - 2 - s.eff.crcLen.toNat)

end Sys2Proof.Machine
end

