-- ==== Sys2Proof/Machine/Flags.lean ====
section
/-! DEFINITION. The conditions the rules compute: elapsed times (R10, R447), window arithmetic (R10, R320), admission
(R306) and the timer checks (R441, R444). -/

namespace Sys2Proof.Machine

/-- elapsed(t0, t) = (t − t0) mod 2^32 (R10). -/
def elapsed (t0 t : Time) : Time := t - t0

/-- A timer started at `t0` with length `len` has expired at `now` (R447). -/
def expired (t0 now len : Time) : Bool := decide (len.toNat ≤ (elapsed t0 now).toNat)

/-- mod8(next_ns − confirm_ns), the number of unacknowledged sequence numbers (R303, R304). -/
def State.outstanding (s : State) : Nat := (s.win.nextNs - s.win.confirmNs).toNat

/-- ValidNR (R320). -/
def State.validNR (s : State) (nr : Seq) : Bool := decide ((nr - s.win.confirmNs).toNat ≤ s.outstanding)

/-- Admit() (R306). -/
def State.admission (s : State) : Bool :=
  decide (s.fsm = .connected) || (s.eff.acceptDisc && decide (s.fsm ≠ .uninit))

/-- A slot whose retry timer has expired: AWAITING_ACK and `retry_timeout` past its last selection (R312, R441). -/
def State.slotExpired (s : State) (x : Slot) : Bool :=
  decide (x.state = .awaitingAck) && expired x.sentAt s.now s.eff.retryTimeout

/-- IFrameExhausted() (R441). -/
def State.iFrameExhausted (s : State) : Bool :=
  !s.flag.peerBusy && s.ring.slots.any (fun x => s.slotExpired x && decide (x.retriesLeft = 0))

/-- KeepAliveLost() (R444). -/
def State.keepAliveLost (s : State) : Bool :=
  decide (s.eff.kaTimeout ≠ 0) && expired s.tim.lastTx s.now s.eff.kaTimeout &&
    decide (s.eff.retries.toNat < s.ctr.kaUnanswered.toNat)

/-- Is the block inside a TX_GET or an RX_PUT (R473)? -/
def State.pumping (s : State) : Bool :=
  (match s.txp.cmd with
    | .txGet _ _ _ => true
    | .idle => false
    | .rxPut _ => false
    | .sendPacket _ _ _ => false
    | .close => false) ||
  (match s.rxp.cmd with
    | .rxPut _ => true
    | .idle => false
    | .txGet _ _ _ => false
    | .sendPacket _ _ _ => false
    | .close => false)

end Sys2Proof.Machine
end

