-- ==== Sys2Proof/Machine/Fsm.lean ====
section
/-! DEFINITION. Unit F, the connection state machine: the entry procedures and the two procedures that reset sequence
state and fail pending work (R402–R406, R410). The received U frames are in Machine/Frames.lean. -/

namespace Sys2Proof.Machine

/-- fail_gen ← fail_gen + 1 mod 2^32 (R38). -/
def bumpFailGen (s : State) : State := s.modCtr (fun c => { c with failGen := c.failGen + 1 })

/-- FailPending() (R410). -/
def failPending (s : State) : State := bumpFailGen (s.markSlots Slot.isPending .failed)

/-- ResetSeq() (R406). -/
def resetSeq (s : State) : State :=
  ((s.markSlots Slot.isSent .failed).modWin (fun _ => ⟨0, 0, 0, 0⟩)).modFlag (fun f =>
    { f with peerBusy := false, rejSent := false, rejOwed := false, ackOwed := false, pollOwed := false })

/-- EnterConnecting() (R402). -/
def enterConnecting (s : State) : State :=
  ((s.setFsm .connecting).modFlag (fun f =>
    { f with sabmPending := true, discPending := false, uTimerRunning := false })).modCtr (fun c =>
    { c with uRetriesLeft := s.eff.retries })

/-- EnterConnected() (R403). -/
def enterConnected (s : State) : State :=
  (((s.setFsm .connected).modFlag (fun f =>
    { f with sabmPending := false, discPending := false, uTimerRunning := false, frmrOwed := false })).modCtr (fun c =>
    { c with kaUnanswered := 0 })).modTim (fun t => { t with lastTx := s.now })

/-- EnterDisconnecting() (R404). -/
def enterDisconnecting (s : State) : State :=
  ((s.setFsm .disconnecting).modFlag (fun f =>
    { f with discPending := true, sabmPending := false, uTimerRunning := false, frmrOwed := false, rejOwed := false,
             ackOwed := false, pollOwed := false })).modCtr (fun c =>
    { c with uRetriesLeft := s.eff.retries })

/-- EnterDisconnected() (R405). -/
def enterDisconnected (s : State) : State :=
  failPending (((s.setFsm .disconnected).modFlag (fun f =>
    { f with sabmPending := false, discPending := false, uTimerRunning := false, frmrOwed := false, rejOwed := false,
             ackOwed := false, pollOwed := false })).modTim (fun t =>
    { t with connBase := s.now, connWait := s.eff.retryTimeout }))

end Sys2Proof.Machine
end

