-- ==== Sys2Proof/Machine/Timers.lean ====
section
/-! DEFINITION. Unit G, the polled timers (R440–R444). -/

namespace Sys2Proof.Machine

/-- UTimer() (R442), in CONNECTING and DISCONNECTING. -/
def uTimer (s : State) : State :=
  if s.flag.uTimerRunning && expired s.tim.uSentAt s.now s.eff.retryTimeout then
    let t := s.modFlag (fun f => { f with uTimerRunning := false })
    if s.ctr.uRetriesLeft = 0 then enterDisconnected t
    else
      (t.modCtr (fun c => { c with uRetriesLeft := c.uRetriesLeft - 1 })).modFlag (fun f =>
        if s.fsm = .connecting then { f with sabmPending := true } else { f with discPending := true })
  else s

/-- TimerPhase() (R440). -/
def timerPhase (s : State) : State :=
  match s.fsm with
  | .uninit => s
  | .disconnected => if expired s.tim.connBase s.now s.tim.connWait then enterConnecting s else s
  | .connecting => uTimer s
  | .disconnecting => uTimer s
  | .connected =>
    if s.iFrameExhausted then enterDisconnected s
    else if s.keepAliveLost then enterDisconnected s
    else s

end Sys2Proof.Machine
end

