-- ==== Sys2Proof/Machine/SendQueue.lean ====
section
/-! DEFINITION. Unit D, the send queue and window engine (43_send_queue.md), with BuildFrame (R274). -/

namespace Sys2Proof.Machine

/-! ## Enqueue and completion -/

/-- Enqueue(p) (R305); SlotRAM beyond the payload is as it was (log 27). -/
def enqueue (p : List Byte) (s : State) : State :=
  (s.modSlot (s.ringIndex s.ring.count.toNat) (fun x =>
    { state := .queued, seq := 0, retriesLeft := s.eff.retries, len := BitVec.ofNat 16 p.length, sentAt := 0,
      ram := memWrite x.ram 0 p })).modRing (fun r => { r with count := r.count + 1 })

/-- The status of the SENT event of a finished slot (R307, R473). -/
def Slot.sentStatus (x : Slot) : SentStatus := if x.state = .acked then .ok else .failed

/-- The SENT event of slot i (R307, R536). -/
def State.sentEvent (s : State) (i : Nat) : Event := .sent (s.slot i).sentStatus Config.addr (s.slotPayload i)

/-- One round of the loop of DeliverCompletions: the slot at `head` is freed (R307). -/
def deliverHead (s : State) : State :=
  let h := s.ring.head.toNat
  let t := emit .txp (s.sentEvent h) s
  let t := t.modEnc (fun e =>
    { e with txfSlotValid := e.txfSlotValid && !decide (e.txfSlot = s.ring.head) })
  (t.modSlot h Slot.freed).modRing (fun r =>
    { r with head := BitVec.ofNat 3 (s.ringIndex 1), count := r.count - 1 })

/-- The loop of DeliverCompletions, at most `n` rounds. -/
def deliverLoop : Nat → State → State
  | 0, s => s
  | n + 1, s =>
    if s.ring.count ≠ 0 ∧ (s.slot s.ring.head.toNat).isFinished then deliverLoop n (deliverHead s) else s

/-- DeliverCompletions() (R307): each round frees one occupied slot, so `count` rounds are enough. -/
def deliverCompletions (s : State) : State := deliverLoop s.ring.count.toNat s

/-! ## Frame assembly and selection -/

/-- BuildFrame(ctrl, payload) (R274); TxBuf beyond the frame is as it was (log 27). -/
def buildFrame (ctrl : Byte) (payload : List Byte) (s : State) : State :=
  let body := Config.addr :: ctrl :: payload
  let frame := body ++ crcBytes s.crcKind body
  s.modEnc (Encoder.stage frame)

/-- SendsNR() (R315). -/
def sendsNR (s : State) : State :=
  (s.modWin (fun w => { w with lastNrSent := w.nextNr })).modFlag (fun f => { f with ackOwed := false })

/-- SelectU(), priority 1 (R309). -/
def selectU (s : State) : Option State :=
  if s.flag.uaOwed then
    some (buildFrame 0x63#8 [] (s.modFlag (fun f => { f with uaOwed := false })))
  else if s.flag.frmrOwed then
    some (buildFrame 0x87#8 [] (s.modFlag (fun f => { f with frmrOwed := false })))
  else if s.flag.sabmPending then
    some (buildFrame 0x2F#8 [] ((s.modFlag (fun f => { f with sabmPending := false, uTimerRunning := true })).modTim
      (fun t => { t with uSentAt := s.now })))
  else if s.flag.discPending then
    some (buildFrame 0x43#8 [] ((s.modFlag (fun f => { f with discPending := false, uTimerRunning := true })).modTim
      (fun t => { t with uSentAt := s.now })))
  else none

/-- SelectAck(), priority 2 (R310). -/
def selectAck (s : State) : Option State :=
  if s.flag.rejOwed then
    some (buildFrame (ctrlS 0b01 false s.win.nextNr) []
      ((sendsNR s).modFlag (fun f => { f with rejOwed := false, pollOwed := false })))
  else if s.flag.pollOwed || (s.flag.ackOwed && expired s.tim.ackSince s.now s.eff.ackDefer) then
    some (buildFrame (ctrlS 0b00 false s.win.nextNr) [] ((sendsNR s).modFlag (fun f => { f with pollOwed := false })))
  else none

/-- The common end of R311 and R312 for slot i: the timer is set, the slot is the one in TxBuf, and its I frame, with the
slot's N(S), N(R) = `next_nr` and P/F 0, is built. -/
def sendSlot (i : Nat) (s : State) : State :=
  let t := s.modSlot i (fun x => { x with state := .inFlight, sentAt := s.now })
  let t := t.modEnc (fun e => { e with txfSlot := BitVec.ofNat 3 i, txfSlotValid := true })
  let t := sendsNR t
  buildFrame (ctrlI (t.slot i).seq false t.win.nextNr) (t.slotPayload i) t

/-- SelectNew(), priority 3 (R311). -/
def selectNew (s : State) : Option State :=
  if s.flag.peerBusy then none
  else match s.firstSlot (fun x => decide (x.state = .queued)) with
    | none => none
    | some i =>
      if s.w ≤ s.outstanding then none
      else some (sendSlot i
        ((s.modSlot i (fun x => { x with seq := s.win.nextNs })).modWin (fun w => { w with nextNs := w.nextNs + 1 })))

/-- SelectRetx(), priority 4 (R312). -/
def selectRetx (s : State) : Option State :=
  if s.flag.peerBusy then none
  else match s.firstSlot (fun x => s.slotExpired x && decide (x.retriesLeft ≠ 0)) with
    | none => none
    | some i => some (sendSlot i (s.modSlot i (fun x => { x with retriesLeft := x.retriesLeft - 1 })))

/-- SelectKeepAlive(), priority 5 (R313). -/
def selectKeepAlive (s : State) : Option State :=
  if s.eff.kaTimeout = 0 ∨ expired s.tim.lastTx s.now s.eff.kaTimeout = false then none
  else
    some (buildFrame (ctrlS 0b00 true s.win.nextNr) []
      ((sendsNR (s.modCtr (fun c => { c with kaUnanswered := c.kaUnanswered + 1 }))).modFlag
        (fun f => { f with pollOwed := false })))

/-- Selected() after an I frame (R314). -/
def selectedI (s : State) : State := s.modTim (fun t => { t with lastTx := s.now })

/-- Selected() after any other frame (R314). -/
def selectedOther (s : State) : State := (selectedI s).modEnc (fun e => { e with txfSlotValid := false })

/-- The five priorities of SelectFrame (R308), after TimerPhase: none is "nothing to send". -/
def selectByPriority (s : State) : Option State :=
  match selectU s with
  | some t => some (selectedOther t)
  | none =>
    if s.fsm = .connected then
      match selectAck s with
      | some t => some (selectedOther t)
      | none =>
        match selectNew s with
        | some t => some (selectedI t)
        | none =>
          match selectRetx s with
          | some t => some (selectedI t)
          | none => (selectKeepAlive s).map selectedOther
    else none

/-- SelectFrame() (R308): the state, and whether a frame was selected. -/
def selectFrame (s : State) : State × Bool :=
  match selectByPriority (timerPhase s) with
  | some t => (t, true)
  | none => (timerPhase s, false)

/-! ## Received N(R) -/

/-- One round of the loop of ProcessNR (R321). Where there is no sent slot, which R303 excludes, only `confirm_ns` moves
(log 21). -/
def ackOne (s : State) : State :=
  let t := match s.firstSlot Slot.isSent with
    | some i => s.modSlot i (fun x => { x with state := .acked })
    | none => s
  t.modWin (fun w => { w with confirmNs := w.confirmNs + 1 })

/-- ProcessNR(nr) (R321): the state, and whether the N(R) was valid. The loop runs mod8(nr − confirm_ns) rounds. -/
def processNR (nr : Seq) (s : State) : State × Bool :=
  if s.validNR nr then (Nat.repeat ackOne (nr - s.win.confirmNs).toNat s, true) else (s, false)

/-- Rewind() (R322). -/
def rewind (s : State) : State :=
  (s.markSlots Slot.isSent .queued).modWin (fun w => { w with nextNs := w.confirmNs })

end Sys2Proof.Machine
end

