-- ==== Sys2Proof/Machine/Frames.lean ====
section
/-! DEFINITION. Units C and E and the received U frames: the meaning of every control octet is the receipt of a frame with
that octet (R360–R368, R407–R409; log 10). The address and the CRC have passed, the octet has been classified, and the
payload stands in RxBuf. -/

namespace Sys2Proof.Machine

/-- The receipt of a frame with a good address: the keep-alive credit (R361), then what its class does. In UNINIT and while
closing the block accepts no byte, so there no frame is received and nothing changes (R246, R571; log 11). -/
def onFrame (k : State → State) (s : State) : State :=
  if s.fsm = .uninit ∨ s.closing = true then s
  else k (s.modCtr (fun c => { c with kaUnanswered := 0 }))

/-- FrmrTrigger() (R363). -/
def frmrTrigger (s : State) : State :=
  if s.fsm = .connected then s.modFlag (fun f => { f with frmrOwed := true }) else s

/-- A frame that must carry no payload is an FRMR trigger if it carries one (R273). -/
def noPayload (k : State → State) (s : State) : State := if s.rxPayload.isEmpty then k s else frmrTrigger s

/-- I and S frames are dropped outside CONNECTED (R365). -/
def whenConnected (k : State → State) (s : State) : State := if s.fsm = .connected then k s else s

/-- poll_owed ← 1 if P/F = 1 (R366, R368). -/
def owePoll (pf : Bool) (s : State) : State := if pf then s.modFlag (fun f => { f with pollOwed := true }) else s

/-- An in-sequence I frame (R366). -/
def receiveInSeq (pf : Bool) (nr : Seq) (s : State) : State :=
  let t := emit .rxp (.frame Config.addr s.rxPayload) s
  let t := t.modWin (fun w => { w with nextNr := w.nextNr + 1 })
  let t := if s.flag.ackOwed then t else t.modTim (fun x => { x with ackSince := s.now })
  let t := t.modFlag (fun f => { f with ackOwed := true, rejSent := false })
  owePoll pf (processNR nr t).1

/-- An out-of-sequence I frame (R367). -/
def receiveOutOfSeq (s : State) : State :=
  if s.flag.rejSent then s else s.modFlag (fun f => { f with rejSent := true, rejOwed := true })

/-- ReceiveI (R366, R367). -/
def receiveI (ns : Seq) (pf : Bool) (nr : Seq) (s : State) : State :=
  if ns = s.win.nextNr then receiveInSeq pf nr s else receiveOutOfSeq s

/-- peer_busy ← b (R323). -/
def setPeerBusy (b : Bool) (s : State) : State := s.modFlag (fun f => { f with peerBusy := b })

/-- ReceiveS with type RR (R368). -/
def receiveRR (pf : Bool) (nr : Seq) (s : State) : State := setPeerBusy false (processNR nr (owePoll pf s)).1

/-- ReceiveS with type REJ (R368). -/
def receiveREJ (pf : Bool) (nr : Seq) (s : State) : State :=
  let r := processNR nr (owePoll pf s)
  if r.2 then rewind (setPeerBusy false r.1) else setPeerBusy false r.1

/-- ReceiveS with type RNR (R368). -/
def receiveRNR (pf : Bool) (nr : Seq) (s : State) : State := setPeerBusy true (processNR nr (owePoll pf s)).1

/-- ua_owed ← 1 (R407, R409). -/
def oweUA (s : State) : State := s.modFlag (fun f => { f with uaOwed := true })

/-- RxSABM() (R407). -/
def rxSABM (s : State) : State :=
  enterConnected (oweUA (resetSeq (if s.fsm = .connected then failPending s else s)))

/-- RxUA() (R408). -/
def rxUA (s : State) : State :=
  match s.fsm with
  | .connecting => enterConnected (resetSeq s)
  | .disconnecting => enterDisconnected s
  | .uninit => s
  | .disconnected => s
  | .connected => s

/-- RxDISC() (R409). -/
def rxDISC (s : State) : State :=
  match s.fsm with
  | .connecting => enterDisconnected (oweUA s)
  | .connected => enterDisconnected (oweUA s)
  | .disconnecting => enterDisconnected (oweUA s)
  | .uninit => oweUA s
  | .disconnected => oweUA s

/-! ## The receipt of each control octet -/

/-- Receipt of an I frame (R360, R366, R367). -/
def frameI (ns : Seq) (pf : Bool) (nr : Seq) (s : State) : State := onFrame (whenConnected (receiveI ns pf nr)) s

/-- Receipt of RR (R360, R368). -/
def frameRR (pf : Bool) (nr : Seq) (s : State) : State := onFrame (noPayload (whenConnected (receiveRR pf nr))) s

/-- Receipt of REJ (R360, R368). -/
def frameREJ (pf : Bool) (nr : Seq) (s : State) : State := onFrame (noPayload (whenConnected (receiveREJ pf nr))) s

/-- Receipt of RNR (R360, R368). -/
def frameRNR (pf : Bool) (nr : Seq) (s : State) : State := onFrame (noPayload (whenConnected (receiveRNR pf nr))) s

/-- Receipt of an S frame of the reserved type: an FRMR trigger, whatever its payload and its other fields (R272, R363). -/
def frameSReserved (_pf : Bool) (_nr : Seq) (s : State) : State := onFrame frmrTrigger s

/-- Receipt of SABM (R364, R407). -/
def frameSABM (s : State) : State := onFrame (noPayload rxSABM) s

/-- Receipt of UA (R364, R408). -/
def frameUA (s : State) : State := onFrame (noPayload rxUA) s

/-- Receipt of DISC (R364, R409). -/
def frameDISC (s : State) : State := onFrame (noPayload rxDISC) s

/-- Receipt of FRMR: ignored, with any payload, but for the keep-alive credit (R361, R364). -/
def frameFRMR (s : State) : State := onFrame id s

/-- Receipt of an unknown U octet: an FRMR trigger (R272, R363). -/
def frameUReserved (_kind : BitVec 6) (s : State) : State := onFrame frmrTrigger s

/-- ProcessFrame after its address check: what the class of the control octet does (R360). A command or a
pseudo-operation is no frame and changes nothing. -/
def receive (i : Instr) (s : State) : State :=
  match i with
  | .iFrame ns pf nr => frameI ns pf nr s
  | .rr pf nr => frameRR pf nr s
  | .rej pf nr => frameREJ pf nr s
  | .rnr pf nr => frameRNR pf nr s
  | .sReserved pf nr => frameSReserved pf nr s
  | .sabm => frameSABM s
  | .ua => frameUA s
  | .disc => frameDISC s
  | .frmr => frameFRMR s
  | .uReserved kind => frameUReserved kind s
  | .init | .close | .status | .disconnect | .txGet _ | .rxPut _ | .sendPacket _ | .getMtu | .setKaTimeout _
  | .bufferSize _ _ _ | .readReg _ | .writeReg _ _ | .runTx _ | .runRx _ | .send _ => s

/-! ## The meanings -/

/-- I (R366, R367). -/
def execIFrame (ns : Seq) (pf : Bool) (nr : Seq) (s : State) : Host.Outcome State Fault Refusal := .next (frameI ns pf nr s)

/-- RR (R368). -/
def execRR (pf : Bool) (nr : Seq) (s : State) : Host.Outcome State Fault Refusal := .next (frameRR pf nr s)

/-- REJ (R368). -/
def execREJ (pf : Bool) (nr : Seq) (s : State) : Host.Outcome State Fault Refusal := .next (frameREJ pf nr s)

/-- RNR (R368). -/
def execRNR (pf : Bool) (nr : Seq) (s : State) : Host.Outcome State Fault Refusal := .next (frameRNR pf nr s)

/-- S_RESERVED (R363). -/
def execSReserved (pf : Bool) (nr : Seq) (s : State) : Host.Outcome State Fault Refusal := .next (frameSReserved pf nr s)

/-- SABM (R407). -/
def execSABM (s : State) : Host.Outcome State Fault Refusal := .next (frameSABM s)

/-- UA (R408). -/
def execUA (s : State) : Host.Outcome State Fault Refusal := .next (frameUA s)

/-- DISC (R409). -/
def execDISC (s : State) : Host.Outcome State Fault Refusal := .next (frameDISC s)

/-- FRMR (R364). -/
def execFRMR (s : State) : Host.Outcome State Fault Refusal := .next (frameFRMR s)

/-- U_RESERVED (R363). -/
def execUReserved (kind : BitVec 6) (s : State) : Host.Outcome State Fault Refusal := .next (frameUReserved kind s)

end Sys2Proof.Machine
end

