-- ==== Sys2Proof/Machine/Framer.lean ====
section
/-! DEFINITION. Unit B, the HDLC framer (41_framer.md): the encoder gives one wire byte at a time, the decoder takes one. -/

namespace Sys2Proof.Machine

/-- Must a byte be escaped (R231)? -/
def mustEscape (b : Byte) : Bool := decide (b = Config.flag ∨ b = Config.esc)

/-- Stuff of one byte (R231). -/
def stuffByte (b : Byte) : List Byte := if mustEscape b then [Config.esc, b ^^^ Config.escMask] else [b]

/-- Stuff of a byte list (R231). -/
def stuff (x : List Byte) : List Byte := x.flatMap stuffByte

/-! ## Encoder -/

/-- FrameDone() (R235). -/
def frameDone (s : State) : State :=
  if s.enc.txfSlotValid then
    let i := s.enc.txfSlot.toNat
    let t := if (s.slot i).state = .inFlight then s.modSlot i (fun x => { x with state := .awaitingAck }) else s
    t.modEnc (fun e => { e with txfSlotValid := false })
  else s

/-- The byte at `txf_pos` of TxBuf (R233). -/
def State.txByte (s : State) : Byte := s.enc.buf.read .tx s.enc.txfNext

/-- The index moves past the byte at `txf_pos`; the frame's last byte leads to CLOSE (R233). -/
def txAdvance (s : State) : State :=
  s.modEnc (fun e =>
    { e.advance with phase := if e.txfNext + 1 = e.txfBytes then .closeFlag else .body })

/-- The case analysis of EncodeStep on `enc_phase` (R233), for a frame that stands in TxBuf. -/
def emitByte (s : State) : State × Option Byte :=
  match s.enc.phase with
  | .idle => (s, none)
  | .openFlag => (s.modEnc (fun e => { e with phase := .body, lastFlag := false }), some Config.flag)
  | .body =>
    let t := s.modEnc (fun e => { e with lastFlag := false })
    if mustEscape s.txByte then (t.modEnc (fun e => { e with phase := .esc }), some Config.esc)
    else (txAdvance t, some s.txByte)
  | .esc => (txAdvance s, some (s.txByte ^^^ Config.escMask))
  | .closeFlag => ((frameDone s).modEnc (fun e => { e with phase := .idle, lastFlag := true }), some Config.flag)

/-- The encoder begins the frame just selected: an opening flag unless flags are shared (R233, R234). -/
def startFrame (s : State) : State :=
  s.modEnc (fun e => { e.atStart with phase := if e.lastFlag then .body else .openFlag })

/-- EncodeStep() (R233): the state, and the byte or NONE. -/
def encodeStep (s : State) : State × Option Byte :=
  if s.enc.phase = .idle then
    if (selectFrame s).2 then emitByte (startFrame (selectFrame s).1) else ((selectFrame s).1, none)
  else emitByte s

/-! ## Decoder -/

/-- Store(v) (R238, R243). -/
def storeByte (v : Byte) (s : State) : State :=
  if s.dec.stored = s.rxCapacity then s.modDec (fun d => { d.clear with state := .hunt })
  else s.modDec (Decoder.push v)

/-- CrcError() (R240). -/
def crcError (s : State) : State :=
  emit .rxp .framerError (s.modCtr (fun c => { c with crcErrCnt := c.crcErrCnt + 1 }))

/-- The bytes of the frame in RxBuf that the CRC covers: address, control and payload (R205, R239). -/
def State.rxBody (s : State) : List Byte := memRead s.dec.buf .rx 0 (s.dec.stored - s.eff.crcLen.toNat)

/-- The CRC bytes of the frame in RxBuf (R239). -/
def State.rxTail (s : State) : List Byte :=
  memRead s.dec.buf .rx (s.dec.stored - s.eff.crcLen.toNat) s.eff.crcLen.toNat

/-- The address byte of the frame in RxBuf (R360). -/
def State.rxAddr (s : State) : Byte := s.dec.buf.read .rx 0

/-- The control octet of the frame in RxBuf (R360). -/
def State.rxCtrl (s : State) : Byte := s.dec.buf.read .rx 1

/-- Is the frame in RxBuf long enough (R239)? -/
def State.rxLongEnough (s : State) : Bool := decide (2 + s.eff.crcLen.toNat ≤ s.dec.stored)

/-- Is its CRC good (R206, R239)? -/
def State.rxCrcGood (s : State) : Bool := decide (s.rxTail = crcBytes s.crcKind s.rxBody)

/-- ProcessFrame(body), with the address check (R360). -/
def processFrame (s : State) : State :=
  if s.rxAddr = Config.addr then receive (decodeCtrl s.rxCtrl) s else s

/-- EndOfFrame() (R239). -/
def endOfFrame (s : State) : State :=
  if s.rxLongEnough = false then s
  else if s.rxCrcGood = false then crcError s
  else processFrame s

/-- DecodeByte(b) (R238). -/
def decodeByte (b : Byte) (s : State) : State :=
  match s.dec.state with
  | .hunt => if b = Config.flag then s.modDec (fun d => { d.clear with state := .reading }) else s
  | .reading =>
    if b = Config.flag then (endOfFrame s).modDec Decoder.clear
    else if b = Config.esc then s.modDec (fun d => { d with state := .escape })
    else storeByte b s
  | .escape =>
    if b = Config.flag then s.modDec (fun d => { d.clear with state := .reading })
    else storeByte (b ^^^ Config.escMask) (s.modDec (fun d => { d with state := .reading }))

end Sys2Proof.Machine
end

