-- ==== Sys2Proof/Machine/Session.lean ====
section
/-! DEFINITION. The session commands INIT, CLOSE, STATUS and DISCONNECT (R471–R475). Each command has a function from
state to state, which a host procedure may call too, and its meaning. -/

namespace Sys2Proof.Machine

/-! ## INIT (R471) -/

/-- The effective retry timeout that INIT computes (R445, R471). -/
def Cfg.initRetryTimeout (c : Cfg) : Time :=
  if c.retryTimeout ≠ 0 then c.retryTimeout else BitVec.ofNat 32 (c.sendTimeout.toNat / (c.retries.toNat + 1))

/-- The effective ack-defer window that INIT computes: min(CFG_ACK_DEFER, floor(retry_timeout / 2)) (R446). -/
def Cfg.initAckDefer (c : Cfg) : Time :=
  if c.ackDefer.toNat ≤ c.initRetryTimeout.toNat / 2 then c.ackDefer
  else BitVec.ofNat 32 (c.initRetryTimeout.toNat / 2)

/-- INIT's own checks on the configuration, for the parameters `p` (R471). -/
def Cfg.legal (p : Params) (c : Cfg) : Bool :=
  decide (1 ≤ c.mtu.toNat) && decide (c.mtu.toNat ≤ p.mtuMax) && decide (1 ≤ c.window.toNat) &&
  (crcKindOf c.crc).isSome && decide (c.initRetryTimeout ≠ 0) &&
  (match bufferSizeByMtu p c.mtu.toNat c.window.toNat c.crc with
    | some n => decide (n ≤ p.bufBytes)
    | none => false)

/-- The effective registers that INIT latches (R40). -/
def Cfg.latch (c : Cfg) : Eff where
  mtu := c.mtu
  window := c.window
  crcCode := crcResolve c.crc
  crcLen := BitVec.ofNat 8 ((crcKindOf c.crc).getD .none).len
  sendTimeout := c.sendTimeout
  retryTimeout := c.initRetryTimeout
  retries := c.retries
  kaTimeout := c.kaTimeout
  ackDefer := c.initAckDefer
  acceptDisc := c.acceptDisc

/-- A fresh session: every element at its "after INIT" value (R49). CFG, `fail_gen`, the ports and the channels stay. -/
def freshSession (s : State) : State :=
  { s with
    eff := s.cfg.latch
    fsm := .disconnected
    closing := false
    win := Window.reset
    flag := Flags.reset
    ctr := { s.ctr with uRetriesLeft := 0, kaUnanswered := 0, crcErrCnt := 0 }
    tim := ⟨s.now, 0, 0, s.now, 0⟩
    ring := Ring.reset
    dec := Decoder.reset
    enc := Encoder.reset }

/-- INIT (R471). -/
def cmdInit (s : State) : State :=
  if s.fsm ≠ .uninit ∨ s.closing = true then refuse Res.failed s
  else if s.cfg.legal s.params = false then refuse Res.failed s
  else respond Res.success [] (freshSession s)

/-- INIT's meaning. -/
def execInit (s : State) : Host.Outcome State Fault Refusal := .next (cmdInit s)

/-! ## CLOSE (R472, R473) -/

/-- CLOSE, the checks and phase 1 (R472). -/
def cmdClose (s : State) : State :=
  inSession (fun s =>
    if s.closing then refuse Res.failed s
    else setCmd .close (bumpFailGen { s with closing := true })) s

/-- CLOSE's meaning: phase 1. Phase 2 is a later micro-step of the same port (`closePhase2`). -/
def execClose (s : State) : Host.Outcome State Fault Refusal := .next (cmdClose s)

/-- The SENT events of CLOSE phase 2, in ring order, to the port of the CLOSE (R473). -/
def closeEvents (s : State) : State := s.ringOrder.foldl (fun t i => emit s.port (s.sentEvent i) t) s

/-- Every element but CFG, `fail_gen`, `crc_err_cnt`, the channels and the commands of the other ports takes its
hardware-reset value (R473, R46; log 7). -/
def endSession (s : State) : State :=
  { s with
    eff := Eff.reset
    fsm := .uninit
    closing := false
    win := Window.reset
    flag := Flags.reset
    ctr := { s.ctr with uRetriesLeft := 0, kaUnanswered := 0 }
    tim := Times.reset
    ring := Ring.reset
    dec := Decoder.reset
    enc := Encoder.reset }

/-- CLOSE phase 2, held while a TX_GET or an RX_PUT is in progress (R473). -/
def closePhase2 (s : State) : State :=
  if s.pumping then s else respond Res.success [] (endSession (closeEvents s))

/-! ## STATUS (R474) -/

/-- STATUS (R474). -/
def cmdStatus (s : State) : State :=
  inSession (fun s => respond (if s.fsm = .connected then Res.success else Res.failed) [] s) s

/-- STATUS's meaning. -/
def execStatus (s : State) : Host.Outcome State Fault Refusal := .next (cmdStatus s)

/-! ## DISCONNECT (R475) -/

/-- DISCONNECT (R475). -/
def cmdDisconnect (s : State) : State :=
  inSession (fun s =>
    if s.closing then refuse Res.failed s
    else match s.fsm with
      | .connected => respond Res.success [] (enterDisconnecting s)
      | .disconnected => respond Res.success [] s
      | .connecting => refuse Res.busy s
      | .disconnecting => refuse Res.busy s
      | .uninit => refuse Res.invalidData s) s

/-- DISCONNECT's meaning. -/
def execDisconnect (s : State) : Host.Outcome State Fault Refusal := .next (cmdDisconnect s)

end Sys2Proof.Machine
end

