-- ==== Sys2Proof/Machine/DataPath.lean ====
section
/-! DEFINITION. The data-path commands TX_GET, RX_PUT and SEND_PACKET (R476–R479): their first micro-step, which is their
meaning, and the micro-steps that follow while their port is busy. -/

namespace Sys2Proof.Machine

/-! ## TX_GET (R476) -/

/-- TX_GET: the checks, and the prologue micro-step. -/
def cmdTxGet (maxLen : BitVec 16) (s : State) : State :=
  if s.port ≠ .txp then refuse Res.invalidData s
  else inSession (fun s =>
    if s.closing then respond 0#32 [] s
    else setCmd (.txGet maxLen [] false) (deliverCompletions (timerPhase s))) s

/-- TX_GET's meaning: the prologue. The output bytes and the epilogue are later micro-steps (`txGetStep`). -/
def execTxGet (maxLen : BitVec 16) (s : State) : Host.Outcome State Fault Refusal := .next (cmdTxGet maxLen s)

/-- The epilogue micro-step: RES is the number of bytes returned (R476). -/
def txEpilogue (dout : List Byte) (s : State) : State :=
  respond (BitVec.ofNat 32 dout.length) dout (deliverCompletions s)

/-- One iteration of TX_GET's loop (R476): it ends the loop while closing or when nothing is ready, or adds one byte. -/
def txOutput (left : BitVec 16) (dout : List Byte) (s : State) : State :=
  if s.closing then setCmd (.txGet left dout true) s
  else match (encodeStep s).2 with
    | none => setCmd (.txGet left dout true) (encodeStep s).1
    | some b => setCmd (.txGet (left - 1) (dout ++ [b]) false) (encodeStep s).1

/-- The next micro-step of a TX_GET: an iteration while the loop goes on, then the epilogue (log 9). -/
def txGetStep (left : BitVec 16) (dout : List Byte) (ended : Bool) (s : State) : State :=
  if ended || decide (left = 0) then txEpilogue dout s else txOutput left dout s

/-! ## RX_PUT (R477) -/

/-- RX_PUT: the checks; the port is then busy with the bytes, one micro-step for each (log 8). No byte is left to do while
closing, or for LEN = 0. -/
def cmdRxPut (din : List Byte) (s : State) : State :=
  if s.port ≠ .rxp then refuse Res.invalidData s
  else inSession (fun s =>
    if s.closing ∨ din = [] then respond Res.success [] s else setCmd (.rxPut din) s) s

/-- RX_PUT's meaning: acceptance. The bytes are later micro-steps (`rxPutStep`). -/
def execRxPut (din : List Byte) (s : State) : Host.Outcome State Fault Refusal := .next (cmdRxPut din s)

/-- The next micro-step of an RX_PUT: one byte, or the end of the loop while closing (R477). -/
def rxPutStep (din : List Byte) (s : State) : State :=
  match din with
  | [] => respond Res.success [] s
  | b :: rest =>
    if s.closing then respond Res.success [] s
    else if rest = [] then respond Res.success [] (decodeByte b s)
    else setCmd (.rxPut rest) (decodeByte b s)

/-! ## SEND_PACKET (R478, R479) -/

/-- SEND_PACKET: the checks, and the issue micro-step (R478). -/
def cmdSendPacket (payload : List Byte) (s : State) : State :=
  if s.port.isApp = false then refuse Res.invalidData s
  else inSession (fun s =>
    if s.closing then refuse Res.failed s
    else if s.eff.mtu.toNat < payload.length then refuse Res.dataTooLarge s
    else setCmd (.sendPacket payload s.now s.ctr.failGen) (if s.fsm = .disconnected then enterConnecting s else s)) s

/-- SEND_PACKET's meaning: issue. The completion is a later micro-step (`sendPacketStep`). -/
def execSendPacket (payload : List Byte) (s : State) : Host.Outcome State Fault Refusal := .next (cmdSendPacket payload s)

/-- The completion micro-step of a held SEND_PACKET; it is not enabled, and nothing changes, while none of A, B, C holds
(R479). -/
def sendPacketStep (payload : List Byte) (tIssue : Time) (gen : Word) (s : State) : State :=
  if s.closing = true ∨ s.fsm = .uninit ∨ s.ctr.failGen ≠ gen then refuse Res.failed s
  else if s.ring.count.toNat < s.w ∧ s.admission = true then respond Res.success [] (enqueue payload s)
  else if expired tIssue s.now s.eff.sendTimeout then refuse Res.timeout s
  else s

/-! ## The next micro-step of a busy port -/

/-- The micro-step that the command of the current port runs next (D38); none for an idle port. -/
def microStep (c : Cmd) (s : State) : State :=
  match c with
  | .idle => s
  | .txGet left dout ended => txGetStep left dout ended s
  | .rxPut din => rxPutStep din s
  | .sendPacket payload tIssue gen => sendPacketStep payload tIssue gen s
  | .close => closePhase2 s

end Sys2Proof.Machine
end

