-- ==== Sys2Proof/Machine/Registers.lean ====
section
/-! DEFINITION. The queries and configuration commands (R480–R485). -/

namespace Sys2Proof.Machine

/-- GET_MTU (R480). -/
def cmdGetMtu (s : State) : State := inSession (fun s => respond (s.eff.mtu.setWidth 32) [] s) s

/-- GET_MTU's meaning. -/
def execGetMtu (s : State) : Host.Outcome State Fault Refusal := .next (cmdGetMtu s)

/-- SET_KA_TIMEOUT (R481). -/
def cmdSetKaTimeout (ms : Time) (s : State) : State :=
  inSession (fun s => respond Res.success [] { s with eff := { s.eff with kaTimeout := ms } }) s

/-- SET_KA_TIMEOUT's meaning. -/
def execSetKaTimeout (ms : Time) (s : State) : Host.Outcome State Fault Refusal := .next (cmdSetKaTimeout ms s)

/-- The RES of BUFFER_SIZE for the parameters `p`: a function of its arguments alone (R482, R485). -/
def bufferSizeRes (p : Params) (mtu : BitVec 16) (window crc : Byte) : Word :=
  if mtu.toNat < 1 ∨ window.toNat < 1 ∨ 7 < window.toNat then Res.invalidData
  else match bufferSizeByMtu p mtu.toNat window.toNat crc with
    | none => Res.invalidData
    | some n => if 2 ^ 31 - 1 < n then Res.dataTooLarge else BitVec.ofNat 32 n

/-- BUFFER_SIZE (R482). -/
def cmdBufferSize (mtu : BitVec 16) (window crc : Byte) (s : State) : State :=
  respond (bufferSizeRes s.params mtu window crc) [] s

/-- BUFFER_SIZE's meaning. -/
def execBufferSize (mtu : BitVec 16) (window crc : Byte) (s : State) : Host.Outcome State Fault Refusal :=
  .next (cmdBufferSize mtu window crc s)

/-- READ_REG (R483): the register's 4 bytes in DOUT, bits 7:0 first. -/
def cmdReadReg (reg : Byte) (s : State) : State :=
  match s.readRegister reg with
  | some v => respond Res.success (leBytes v 4) s
  | none => refuse Res.invalidData s

/-- READ_REG's meaning. -/
def execReadReg (reg : Byte) (s : State) : Host.Outcome State Fault Refusal := .next (cmdReadReg reg s)

/-- WRITE_REG (R484). -/
def cmdWriteReg (reg : Byte) (value : Word) (s : State) : State :=
  match s.cfg.write reg value with
  | some c => respond Res.success [] { s with cfg := c }
  | none => refuse Res.invalidData s

/-- WRITE_REG's meaning. -/
def execWriteReg (reg : Byte) (value : Word) (s : State) : Host.Outcome State Fault Refusal :=
  .next (cmdWriteReg reg value s)

end Sys2Proof.Machine
end

