-- ==== Sys2Proof/Machine/HostProc.lean ====
section
/-! DEFINITION. The host pseudo-operations RUN_TX, RUN_RX and SEND (R147, R490–R492; log 12, log 14, log 28). Each starts a
procedure at its port; the procedure then issues block commands there, one after another, and reads their responses. -/

namespace Sys2Proof.Machine

/-- The procedure of the current port goes to `pr`, its reply read. -/
def setProc (pr : Proc) (s : State) : State := s.modPort s.port (fun q => { q with proc := some pr, reply := none })

/-- The procedure of the current port ends and returns RES to the host. -/
def endProc (res : Word) (s : State) : State :=
  s.modPort s.port (fun q =>
    { q with proc := none, reply := none, responses := q.responses ++ [⟨res, []⟩] })

/-- The procedure of the current port ends and returns a count, the total of RUN_TX or RUN_RX or the `n_bytes_enqueued` of SEND. The
spec gives the count no width; that it is a 32-bit RES, modulo 2^32, is the model's choice (log 28). -/
def endCount (n : Nat) (s : State) : State := endProc (BitVec.ofNat 32 n) s

/-- RUN_TX with the answers of `write_fn` begins (R490). -/
def execRunTx (writes : List Word) (s : State) : Host.Outcome State Fault Refusal := .next (setProc (.runTxGet 0 writes) s)

/-- RUN_RX with the answers of `read_fn` begins (R491). -/
def execRunRx (reads : List (List Byte)) (s : State) : Host.Outcome State Fault Refusal :=
  .next (setProc (.runRxRead 0 reads) s)

/-- SEND of a buffer begins (R492). -/
def execSend (buf : List Byte) (s : State) : Host.Outcome State Fault Refusal := .next (setProc (.sendMtu buf) s)

/-- RUN_TX has the response of its TX_GET: with no bytes it returns, else it writes them (R490). -/
def runTxReply (total : Nat) (writes : List Word) (r : Response) (s : State) : State :=
  if r.res.toInt ≤ 0 then endCount total s else setProc (.runTxWrite total writes r.dout) s

/-- RUN_TX calls `write_fn(bytes)`: an answer of 0 or less ends it, the rest of the bytes lost (R490, R576). A call past the
listed answers is answered 0 (log 12). -/
def runTxCall (total : Nat) (writes : List Word) (bytes : List Byte) (s : State) : State :=
  let w := writes.headD 0#32
  if w.toInt ≤ 0 then endCount total s
  else if bytes.drop w.toNat = [] then setProc (.runTxGet (total + w.toNat) writes.tail) s
  else setProc (.runTxWrite (total + w.toNat) writes.tail (bytes.drop w.toNat)) s

/-- RUN_RX calls `read_fn(4)`: an error or no byte ends it, else the bytes go to RX_PUT (R491). A call past the listed answers
gives no byte, and a call gives at most 4 (log 12). -/
def runRxCall (total : Nat) (reads : List (List Byte)) (s : State) : State :=
  let bytes := (reads.headD []).take 4
  if bytes = [] then endCount total s
  else cmdRxPut bytes (setProc (.runRxWait total reads.tail bytes.length) s)

/-- SEND at the head of its loop, with the answer `m` of GET_MTU (R492). Where GET_MTU failed, SEND returns its code
(log 13). The count it returns has 32 bits (log 28). -/
def sendFragment (buf : List Byte) (m : Word) (sent : Nat) (s : State) : State :=
  if buf.length ≤ sent then endCount sent s
  else if m.toInt < 0 then endProc m s
  else
    let k := min m.toNat (buf.length - sent)
    cmdSendPacket ((buf.drop sent).take k) (setProc (.sendWait buf m sent k) s)

/-- SEND has the response of its SEND_PACKET of `k` bytes (R492). The count it returns has 32 bits (log 28). -/
def sendReply (buf : List Byte) (m : Word) (sent k : Nat) (r : Response) (s : State) : State :=
  if r.res = Res.success then setProc (.sendLoop buf m (sent + k)) s
  else if sent = 0 ∧ r.res ≠ Res.timeout then endProc r.res s
  else endCount sent s

/-- The next step of the procedure at the current port, whose command is done: `reply` is the response it has to read. It
waits where a response it needs is not there. -/
def procStep (pr : Proc) (reply : Option Response) (s : State) : State :=
  match pr with
  | .runTxGet total writes => cmdTxGet 4#16 (setProc (.runTxWait total writes) s)
  | .runTxWait total writes =>
    match reply with
    | some r => runTxReply total writes r s
    | none => s
  | .runTxWrite total writes bytes => runTxCall total writes bytes s
  | .runRxRead total reads => runRxCall total reads s
  | .runRxWait total reads n =>
    match reply with
    | some _ => setProc (.runRxRead (total + n) reads) s
    | none => s
  | .sendMtu buf => cmdGetMtu (setProc (.sendMtuWait buf) s)
  | .sendMtuWait buf =>
    match reply with
    | some r => setProc (.sendLoop buf r.res 0) s
    | none => s
  | .sendLoop buf m sent => sendFragment buf m sent s
  | .sendWait buf m sent k =>
    match reply with
    | some r => sendReply buf m sent k r s
    | none => s

end Sys2Proof.Machine
end

