-- ==== Sys2Proof/Machine/Dispatch.lean ====
section
/-! DEFINITION. One arm for each instruction. -/

namespace Sys2Proof.Machine

-- The meaning of an instruction, in the state whose `port` and `now` are those of the micro-step.
def exec (i : Instr) (s : State) : Host.Outcome State Fault Refusal :=
  match i with
  | .init => Sys2Proof.Machine.execInit s
  | .close => Sys2Proof.Machine.execClose s
  | .status => Sys2Proof.Machine.execStatus s
  | .disconnect => Sys2Proof.Machine.execDisconnect s
  | .txGet maxLen => Sys2Proof.Machine.execTxGet maxLen s
  | .rxPut din => Sys2Proof.Machine.execRxPut din s
  | .sendPacket payload => Sys2Proof.Machine.execSendPacket payload s
  | .getMtu => Sys2Proof.Machine.execGetMtu s
  | .setKaTimeout ms => Sys2Proof.Machine.execSetKaTimeout ms s
  | .bufferSize mtu window crc => Sys2Proof.Machine.execBufferSize mtu window crc s
  | .readReg reg => Sys2Proof.Machine.execReadReg reg s
  | .writeReg reg value => Sys2Proof.Machine.execWriteReg reg value s
  | .runTx writes => Sys2Proof.Machine.execRunTx writes s
  | .runRx reads => Sys2Proof.Machine.execRunRx reads s
  | .send buf => Sys2Proof.Machine.execSend buf s
  | .iFrame ns pf nr => Sys2Proof.Machine.execIFrame ns pf nr s
  | .rr pf nr => Sys2Proof.Machine.execRR pf nr s
  | .rej pf nr => Sys2Proof.Machine.execREJ pf nr s
  | .rnr pf nr => Sys2Proof.Machine.execRNR pf nr s
  | .sReserved pf nr => Sys2Proof.Machine.execSReserved pf nr s
  | .sabm => Sys2Proof.Machine.execSABM s
  | .ua => Sys2Proof.Machine.execUA s
  | .disc => Sys2Proof.Machine.execDISC s
  | .frmr => Sys2Proof.Machine.execFRMR s
  | .uReserved kind => Sys2Proof.Machine.execUReserved kind s

end Sys2Proof.Machine
end

