-- ==== Sys2Proof/Machine/Schedule.lean ====
section
/-! DEFINITION. What one entry of the schedule does: it samples NOW_MS (R48), and lets a port run its next micro-step
(R113, R116), or the host take an event (R47), or hardware reset happen (R570). -/

namespace Sys2Proof.Machine

/-- The instruction that a waiting request or pseudo-operation spells; none for a malformed request (R134). -/
def decodeOp : HostOp → Option Instr
  | .request r =>
    match decodeRequest r with
    | .ok i => some i
    | .error _ => none
  | .runTx writes => some (.runTx writes)
  | .runRx reads => some (.runRx reads)
  | .send buf => some (.send buf)

/-- The micro-step begins: NOW_MS is sampled, the port is chosen, the entry is used up (R48, log 1). -/
def sample (p : PortId) (t : Time) (rest : List Tick) (s : State) : State :=
  { s with now := t, port := p, ticks := rest }

/-- The current port accepts the request at the head of its queue (R470). -/
def popQueue (s : State) : State := s.modPort s.port (fun q => { q with queue := q.queue.tail })

/-- An idle port accepts a waiting request: a malformed one is INVALID_DATA (R134), another runs its first micro-step. With
nothing waiting, nothing happens. -/
def accept (q : Port) (s : State) : Host.Outcome State Fault Refusal :=
  match q.queue with
  | [] => .next s
  | op :: _ =>
    match decodeOp op with
    | none => .next (refuse Res.invalidData (popQueue s))
    | some i => exec i (popQueue s)

/-- The next micro-step of the current port, which stands as `q` (R46, R113): its command goes on, or its host procedure, or it
accepts a request. That no request waiting at the port is accepted between the commands of a host procedure running there, which
R147 leaves open, is the model's choice (log 26). -/
def runPort (q : Port) (s : State) : Host.Outcome State Fault Refusal :=
  if q.cmd ≠ .idle then .next (microStep q.cmd s)
  else match q.proc with
    | some pr => .next (procStep pr q.reply s)
    | none => accept q s

/-- A port after hardware reset: idle, its channel empty, no host procedure; what the host has presented and been answered
is the host's (R46, R47, log 15). -/
def Port.hardReset (q : Port) : Port := { Port.reset with queue := q.queue, responses := q.responses }

/-- Hardware reset (R570). -/
def hardwareReset (s : State) : State :=
  { State.reset with
    params := s.params
    txp := s.txp.hardReset
    rxp := s.rxp.hardReset
    apps := s.apps.map Port.hardReset
    now := s.now
    port := s.port
    ticks := s.ticks }

/-- The host takes the event at the head of a channel (R47, log 16). -/
def takeEvent (p : PortId) (s : State) : State := s.modPort p (fun q => { q with events := q.events.tail })

/-- One entry of the schedule; a port that the block does not have is a fault (log 20). -/
def runTick (t : Tick) (rest : List Tick) (s : State) : Host.Outcome State Fault Refusal :=
  match t.act with
  | .run p =>
    match s.port? p with
    | none => .fault (.noSuchPort p)
    | some q => runPort q (sample p t.now rest s)
  | .takeEvent p =>
    match s.port? p with
    | none => .fault (.noSuchPort p)
    | some _ => .next (takeEvent p { s with now := t.now, ticks := rest })
  | .reset => .next (hardwareReset { s with now := t.now, ticks := rest })

/-! ## Where the next step fetches (log 18) -/

/-- The port at which a command of this opcode is accepted (R132): TXP but for RX_PUT and SEND_PACKET. -/
def portOf (opc : Byte) : PortId := if opc = 0x06#8 then .rxp else if opc = 0x07#8 then .app 0 else .txp

/-- A port made ready to accept `r` next. -/
def Port.present (r : Request) (q : Port) : Port :=
  { q with cmd := .idle, proc := none, reply := none, queue := .request r :: q.queue }

/-- `r` is the next request that the next step accepts. -/
def presentRequest (r : Request) (s : State) : State :=
  let p := portOf (opcOf r.cw)
  { s.modPort p (Port.present r) with ticks := ⟨s.now, .run p⟩ :: s.ticks }

/-- The next step takes the closing flag of a frame with the control octet `c`, no payload and a good CRC: the frame stands
in RxBuf, an RX_PUT with the flag left is in progress at RXP, and there is a session that is not closing. -/
def presentOctet (c : Byte) (s : State) : State :=
  let body := [Config.addr, c]
  let frame := body ++ crcBytes s.crcKind body
  { s with
    fsm := if s.fsm = .uninit then .disconnected else s.fsm
    closing := false
    dec := ⟨.reading, BitVec.ofNat 16 frame.length, false, memWrite [] 0 frame⟩
    rxp := { s.rxp with cmd := .rxPut [Config.flag] }
    ticks := ⟨s.now, .run .rxp⟩ :: s.ticks }

end Sys2Proof.Machine
end

