-- ==== Sys2Proof/Machine/Step.lean ====
section
/-! DEFINITION. One step: the next entry of the schedule. The block does nothing between micro-steps (R545, log 19). -/

namespace Sys2Proof.Machine

/-- One step. With no entry left nothing drives the block, and it keeps its state. -/
def step (s : State) : Host.Outcome State Fault Refusal :=
  match s.ticks with
  | [] => .next s
  | t :: rest => runTick t rest s

/-- The instruction of a table word placed where the next step fetches it: a request at a port's queue, or a frame at its
closing flag, and the schedule entry that lets that port run (log 18). -/
def State.withFetchWord (s : State) (nbits w : Nat) : State :=
  if isOctetWord nbits w && decide (nbits ≠ 0) then presentOctet (BitVec.ofNat 8 w) s
  else presentRequest (tableRequest w) s

end Sys2Proof.Machine
end

