-- ==== Sys2Proof/Safety.lean ====
section
/-! DEFINITION. The terms in which the claims speak: what a micro-step leaves unchanged, what a response does, and the
invariants of the block. -/

namespace Sys2Proof.Machine

/-! ## Frames -/

/-- Every register of the block and every byte of its storage is the same: configuration, FSM, window, flags, counters,
timestamps, ring with SlotRAM, decoder with RxBuf, encoder with TxBuf. -/
structure SameBlock (s t : State) : Prop where
  params : t.params = s.params
  cfg : t.cfg = s.cfg
  eff : t.eff = s.eff
  fsm : t.fsm = s.fsm
  closing : t.closing = s.closing
  win : t.win = s.win
  flag : t.flag = s.flag
  ctr : t.ctr = s.ctr
  tim : t.tim = s.tim
  ring : t.ring = s.ring
  dec : t.dec = s.dec
  enc : t.enc = s.enc

/-- The sample of the micro-step and the schedule are the same. -/
structure SameInputs (s t : State) : Prop where
  now : t.now = s.now
  port : t.port = s.port
  ticks : t.ticks = s.ticks

/-- Every port but `p` is the same. -/
def SameOtherPorts (p : PortId) (s t : State) : Prop := ∀ p', p' ≠ p → t.port? p' = s.port? p'

/-- The current port has been given the response (RES, DOUT) and is idle; nothing else of it has changed, its channel
included. The response goes to the host, or to the host procedure that runs at the port. -/
def Answered (s t : State) (res : Word) (dout : List Byte) : Prop :=
  (∀ q, s.port? s.port = some q → q.proc = none →
    t.port? s.port = some { q with cmd := .idle, responses := q.responses ++ [⟨res, dout⟩] }) ∧
  (∀ q pr, s.port? s.port = some q → q.proc = some pr →
    t.port? s.port = some { q with cmd := .idle, reply := some ⟨res, dout⟩ })

/-- The micro-step has only answered: a response at the current port, and nothing else changed. -/
structure AnsweredOnly (s t : State) (res : Word) (dout : List Byte) : Prop where
  block : SameBlock s t
  inputs : SameInputs s t
  others : SameOtherPorts s.port s t
  answer : Answered s t res dout

/-- The current port is busy with the command `c`; nothing else of it, and no other port, has changed. -/
def NowBusy (c : Cmd) (s t : State) : Prop :=
  SameOtherPorts s.port s t ∧ ∀ q, s.port? s.port = some q → t.port? s.port = some { q with cmd := c }

/-- The schedule lets port `p` run next, at time `now`, and `q` is how that port stands. -/
structure RunsNext (p : PortId) (now : Time) (rest : List Tick) (q : Port) (s : State) : Prop where
  ticks : s.ticks = ⟨now, .run p⟩ :: rest
  port : s.port? p = some q

/-- The block is in a session and no CLOSE runs: commands act, and the frames of the peer are received (R246, R472). -/
structure Running (s : State) : Prop where
  session : s.fsm ≠ .uninit
  notClosing : s.closing = false

/-- The frame interior with the control octet `c` and the payload `p`: address, control, payload, CRC (R205, R230). -/
def interior (k : CrcKind) (c : Byte) (p : List Byte) : List Byte := 0xFF :: c :: p ++ crcBytes k (0xFF :: c :: p)

/-- TxBuf holds the frame with the control octet `c` and the payload `p`, and `txf_len` is its length (R274). -/
def Staged (c : Byte) (p : List Byte) (s : State) : Prop :=
  s.enc.txfBytes = (interior s.crcKind c p).length ∧
  memRead s.enc.buf .tx 0 (interior s.crcKind c p).length = interior s.crcKind c p

/-- SelectFrame answers true and selects the frame with the control octet `c` and the payload `p`: the state is `v`, but that
TxBuf and `txf_len`, with its carry (log 6), hold that frame; TxBuf beyond the frame is as it was in `v`, the model's choice
(log 27). -/
def Selects (s v : State) (c : Byte) (p : List Byte) : Prop :=
  ∃ buf : Memory,
    selectFrame s =
      ({ v with
          enc := { v.enc with
            buf := buf
            txfLen := BitVec.ofNat 16 (interior v.crcKind c p).length
            txfLenOver := decide (65536 ≤ (interior v.crcKind c p).length) } }, true) ∧
    memRead buf .tx 0 (interior v.crcKind c p).length = interior v.crcKind c p ∧
    ∀ a, (interior v.crcKind c p).length ≤ a → buf.read .tx a = v.enc.buf.read .tx a

/-- No unnumbered frame is pending, so that priority 1 has nothing to send (R309). -/
structure NoUnnumbered (s : State) : Prop where
  ua : s.flag.uaOwed = false
  frmr : s.flag.frmrOwed = false
  sabm : s.flag.sabmPending = false
  disc : s.flag.discPending = false

/-- No acknowledgement is to be sent now, so that priority 2 has nothing to send (R310). -/
structure NoAckDue (s : State) : Prop where
  rej : s.flag.rejOwed = false
  poll : s.flag.pollOwed = false
  ack : s.flag.ackOwed = true → (s.now - s.tim.ackSince).toNat < s.eff.ackDefer.toNat

/-- Priority 3 has nothing to send (R311). -/
def NoNewFrame (s : State) : Prop :=
  s.flag.peerBusy = true ∨ (∀ i ∈ s.ringOrder, (s.slot i).state ≠ .queued) ∨ s.w ≤ (s.win.nextNs - s.win.confirmNs).toNat

/-- The slot can be retransmitted now (R312). -/
def Due (s : State) (x : Slot) : Prop :=
  x.state = .awaitingAck ∧ s.eff.retryTimeout.toNat ≤ (s.now - x.sentAt).toNat ∧ x.retriesLeft ≠ 0

/-- Priority 4 has nothing to send (R312). -/
def NoRetransmission (s : State) : Prop := s.flag.peerBusy = true ∨ ∀ i ∈ s.ringOrder, ¬ Due s (s.slot i)

/-- `i` is the first slot in ring order with the property `p`. -/
def FirstInRing (s : State) (p : Slot → Prop) (i : Nat) : Prop :=
  ∃ before after, s.ringOrder = before ++ i :: after ∧ p (s.slot i) ∧ ∀ j ∈ before, ¬ p (s.slot j)

/-! ## The table of R132 -/

/-- How a row of R132 uses a field or DIN. -/
inductive FieldUse where
  /-- The field must be 0, the DIN empty. -/
  | zero
  /-- The field may have any value. -/
  | any
  /-- Only bits 7 to 0 may be nonzero. -/
  | low8
  /-- The DIN has exactly LEN bytes. -/
  | lenBytes
  deriving DecidableEq, Repr

/-- A row of R132. -/
structure CommandRow where
  opc : Byte
  idx : FieldUse
  len : FieldUse
  arg : FieldUse
  din : FieldUse
  deriving DecidableEq, Repr

/-- The rows of R132. -/
def commandTable : List CommandRow :=
  [⟨0x01, .zero, .zero, .zero, .zero⟩, ⟨0x02, .zero, .zero, .zero, .zero⟩, ⟨0x03, .zero, .zero, .zero, .zero⟩,
   ⟨0x04, .zero, .zero, .zero, .zero⟩, ⟨0x05, .zero, .any, .zero, .zero⟩, ⟨0x06, .zero, .any, .zero, .lenBytes⟩,
   ⟨0x07, .zero, .any, .zero, .lenBytes⟩, ⟨0x08, .zero, .zero, .zero, .zero⟩, ⟨0x09, .zero, .zero, .any, .zero⟩,
   ⟨0x0A, .any, .any, .low8, .zero⟩, ⟨0x0B, .any, .zero, .zero, .zero⟩, ⟨0x0C, .any, .zero, .any, .zero⟩]

/-- The request keeps to the row. -/
structure CommandRow.Fits (row : CommandRow) (r : Request) : Prop where
  opc : r.cw.extractLsb' 0 8 = row.opc
  idx : row.idx = .zero → r.cw.extractLsb' 8 8 = 0
  len : row.len = .zero → r.cw.extractLsb' 16 16 = 0
  arg : row.arg = .zero → r.arg = 0
  argLow : row.arg = .low8 → r.arg.toNat < 256
  dinEmpty : row.din = .zero → r.din = []
  dinLen : row.din = .lenBytes → r.din.length = (r.cw.extractLsb' 16 16).toNat

/-- The request is malformed (R134): it keeps to no row of R132. -/
def Malformed (r : Request) : Prop := ∀ row ∈ commandTable, ¬ row.Fits r

/-! ## Storage -/

/-- Every storage is in canonical form. -/
def RamCanonical (s : State) : Prop :=
  (∀ x ∈ s.ring.slots, x.ram.wf = true) ∧ Memory.wf s.dec.buf = true ∧ Memory.wf s.enc.buf = true

/-- The first `n` bytes of a storage have been written. -/
def Memory.Written (m : Memory) (n : Nat) : Prop := ∀ a, a < n → (Memory.find m a).isSome = true

/-- Whatever may be read has been written (R49, U7): the payload of every slot that is not FREE, the bytes of the frame in
progress in RxBuf, and the frame in TxBuf while the encoder emits it. -/
def RamWritten (s : State) : Prop :=
  (∀ x ∈ s.ring.slots, x.state ≠ .free → x.ram.Written x.len.toNat) ∧
  Memory.Written s.dec.buf s.dec.stored ∧
  (s.enc.phase ≠ .idle → Memory.Written s.enc.buf s.enc.txfBytes)

/-! ## The window and the counters -/

/-- The window invariant (R304): mod8(next_ns − confirm_ns) ≤ W. -/
def WindowInv (s : State) : Prop := s.outstanding ≤ s.w

/-- `ka_unanswered` never exceeds `retries` + 1 (R36). -/
def KeepAliveInv (s : State) : Prop := s.ctr.kaUnanswered.toNat ≤ s.eff.retries.toNat + 1

/-- The frame in progress fits RxBuf (R102). -/
def RxBoundInv (s : State) : Prop := s.dec.stored ≤ s.rxCapacity

/-! ## The session -/

/-- No port carries a command that it does not accept: TX_GET only at TXP, RX_PUT only at RXP, SEND_PACKET only at an APP
port (R132, R581). -/
def PortsLegal (s : State) : Prop :=
  (∀ q ∈ s.apps, (∀ n d e, q.cmd ≠ .txGet n d e) ∧ ∀ d, q.cmd ≠ .rxPut d) ∧
  ((∀ d, s.txp.cmd ≠ .rxPut d) ∧ ∀ p t g, s.txp.cmd ≠ .sendPacket p t g) ∧
  ((∀ n d e, s.rxp.cmd ≠ .txGet n d e) ∧ ∀ p t g, s.rxp.cmd ≠ .sendPacket p t g)

/-- Nothing of a session is left: every register of it at its hardware-reset value (R40, R49, R473). -/
structure NoSession (s : State) : Prop where
  eff : s.eff = Eff.reset
  closing : s.closing = false
  win : s.win = Window.reset
  flag : s.flag = Flags.reset
  uRetriesLeft : s.ctr.uRetriesLeft = 0
  kaUnanswered : s.ctr.kaUnanswered = 0
  tim : s.tim = Times.reset
  ring : s.ring = Ring.reset
  dec : s.dec = Decoder.reset
  enc : s.enc = Encoder.reset

/-- In UNINIT there is no session, and no TX_GET and no RX_PUT is in progress. -/
def SessionInv (s : State) : Prop := PortsLegal s ∧ (s.fsm = .uninit → NoSession s ∧ s.pumping = false)

/-- What INIT leaves in the effective registers stays so: `crc_len` is the length of the CRC kind, and in a session the MTU and
the window are legal, `retry_timeout` is not 0, and `ack_defer` is at most half of it (R40, R200, R445, R446, R471). -/
structure EffInv (s : State) : Prop where
  crcLen : s.eff.crcLen.toNat = s.crcKind.len
  mtu : s.fsm ≠ .uninit → 1 ≤ s.eff.mtu.toNat ∧ s.eff.mtu.toNat ≤ s.params.mtuMax
  window : s.fsm ≠ .uninit → 1 ≤ s.w
  retry : s.fsm ≠ .uninit → s.eff.retryTimeout ≠ 0
  defer : s.fsm ≠ .uninit → s.eff.ackDefer.toNat ≤ s.eff.retryTimeout.toNat / 2

/-! ## The ring (R303) -/

/-- The occupied slots, oldest first. -/
def State.ringSlots (s : State) : List Slot := s.ringOrder.map s.slot

/-- Where a slot may stand in ring order: finished before sent before queued (R303). -/
def Slot.rank (x : Slot) : Nat :=
  match x.state with
  | .acked => 0
  | .failed => 0
  | .inFlight => 1
  | .awaitingAck => 1
  | .queued => 2
  | .free => 3

/-- The ring-order invariant (R41, R300, R303). -/
structure RingInv (s : State) : Prop where
  /-- There are seven slots. -/
  seven : s.ring.slots.length = 7
  /-- In UNINIT there is no window. -/
  noWindow : s.fsm = .uninit → s.w = 0
  /-- In a session `head` is a slot of it. -/
  headInW : s.fsm ≠ .uninit → s.ring.head.toNat < s.w
  /-- At most W slots are occupied. -/
  countLeW : s.ring.count.toNat ≤ s.w
  /-- Every other slot is FREE. -/
  freeOutside : ∀ i, i ∉ s.ringOrder → (s.slot i).state = .free
  /-- No occupied slot is FREE. -/
  occupied : ∀ x ∈ s.ringSlots, x.state ≠ .free
  /-- Finished slots, then sent slots, then QUEUED slots. -/
  ordered : (s.ringSlots.map Slot.rank).Pairwise (· ≤ ·)
  /-- In CONNECTED the sent slots carry `confirm_ns`, `confirm_ns` + 1, … , `next_ns` − 1 in ring order. -/
  numbered : s.fsm = .connected →
    (s.ringSlots.filter Slot.isSent).map Slot.seq =
      (List.range s.outstanding).map (fun j => s.win.confirmNs + BitVec.ofNat 3 j)

/-! ## Runs of the framer -/

/-- DecodeByte over a byte list, in order (R238). -/
def decodeBytes (bytes : List Byte) (s : State) : State := bytes.foldl (fun t b => decodeByte b t) s

/-- `n` calls of EncodeStep: the state, and the bytes they return, a NONE adding nothing (R233). -/
def encodeSteps : Nat → State → State × List Byte
  | 0, s => (s, [])
  | n + 1, s =>
    let r := encodeSteps n (encodeStep s).1
    (r.1, (encodeStep s).2.toList ++ r.2)

/-- The first `n` bytes of TxBuf. -/
def State.txFrame (s : State) (n : Nat) : List Byte := memRead s.enc.buf .tx 0 n

end Sys2Proof.Machine
end

