-- ==== Sys2Proof/Certificates/Slice0/Obligations.lean ====
section
/-! DEFINITION. The statements. Each docstring names the rules of spec/ that it formalises, and says where a clause is a choice
of the model. A state after an instruction is written out as the state before with the changed fields, so that every field
not named is said to be unchanged. -/

open Sys2Proof Sys2Proof.Machine

/-! ## Encodings -/

/-- Decoding the encoding of a well-formed instruction gives it back, every operand at every value (R131, R132, R141–R146). -/
def Obligations.DecodeOfEncode : Prop :=
  ∀ i : Instr, i.wf = true → ∀ c, encode i = some c → decodeCode c = .ok i

/-- A request that decodes is the encoding of what it decodes to, and so is every control octet; a malformed request decodes to
nothing, and a request that keeps to a row of R132 decodes (R132, R133, R134, R140). -/
def Obligations.EncodeOfDecode : Prop :=
  (∀ r i, decodeRequest r = .ok i → i.wf = true ∧ encode i = some (.request r)) ∧
  (∀ c : Byte, (decodeCtrl c).wf = true ∧ encode (decodeCtrl c) = some (.octet c)) ∧
  (∀ r, Malformed r ↔ ∃ e, decodeRequest r = .error e)

/-- Words written out from the encodings of R131, R132 and R141–R144 decode to the instructions they stand for, and the CRC
functions give the check values of R201–R203. -/
def Obligations.KnownWords : Prop :=
  (decodeRequest ⟨0b00000000000000000000000000000001#32, 0, []⟩ = .ok .init ∧
   decodeRequest ⟨0b00000000010000000000000000000101#32, 0, []⟩ = .ok (.txGet 64) ∧
   decodeRequest ⟨0b00000000000000100000000000000111#32, 0, [0x68, 0x69]⟩ = .ok (.sendPacket [0x68, 0x69]) ∧
   decodeRequest ⟨0b00000000000100000000001000001010#32, 0x10, []⟩ = .ok (.bufferSize 16 2 0x10) ∧
   decodeRequest ⟨0b00000000000000000010010000001011#32, 0, []⟩ = .ok (.readReg 0x24) ∧
   decodeRequest ⟨0b00000000000000000000000100001100#32, 9, []⟩ = .ok (.writeReg 1 9)) ∧
  (decodeCtrl 0b10100110#8 = .iFrame 3 false 5 ∧ decodeCtrl 0b00110101#8 = .rej true 1 ∧
   decodeCtrl 0b00010001#8 = .rr true 0 ∧ decodeCtrl 0b00101001#8 = .rnr false 1 ∧
   decodeCtrl 0b00001101#8 = .sReserved false 0 ∧ decodeCtrl 0b00101111#8 = .sabm ∧ decodeCtrl 0b01100011#8 = .ua ∧
   decodeCtrl 0b01000011#8 = .disc ∧ decodeCtrl 0b10000111#8 = .frmr ∧ decodeCtrl 0b00111111#8 = .uReserved 0b001111) ∧
  (crc8 [0x31, 0x32, 0x33, 0x34, 0x35, 0x36, 0x37, 0x38, 0x39] = 0xFB ∧
   crc16 [0x31, 0x32, 0x33, 0x34, 0x35, 0x36, 0x37, 0x38, 0x39] = 0x29B1 ∧
   crc32 [0x31, 0x32, 0x33, 0x34, 0x35, 0x36, 0x37, 0x38, 0x39] = 0xCBF43926 ∧
   crcBytes .crc16 [0xFF, 0x2F] = [0x7D, 0xCB])

/-- Classify (R271): each control octet by its bits. The two BAD classes are told apart as `sReserved` and `uReserved`. -/
def Obligations.ClassifyByBits : Prop :=
  ∀ c : Byte,
    (c.getLsbD 0 = false → decodeCtrl c = .iFrame (c.extractLsb' 1 3) (c.getLsbD 4) (c.extractLsb' 5 3)) ∧
    (c.extractLsb' 0 2 = 0b01#2 →
      (c.extractLsb' 2 2 = 0b00#2 → decodeCtrl c = .rr (c.getLsbD 4) (c.extractLsb' 5 3)) ∧
      (c.extractLsb' 2 2 = 0b01#2 → decodeCtrl c = .rej (c.getLsbD 4) (c.extractLsb' 5 3)) ∧
      (c.extractLsb' 2 2 = 0b10#2 → decodeCtrl c = .rnr (c.getLsbD 4) (c.extractLsb' 5 3)) ∧
      (c.extractLsb' 2 2 = 0b11#2 → decodeCtrl c = .sReserved (c.getLsbD 4) (c.extractLsb' 5 3))) ∧
    (c = 0x2F → decodeCtrl c = .sabm) ∧ (c = 0x63 → decodeCtrl c = .ua) ∧
    (c = 0x43 → decodeCtrl c = .disc) ∧ (c = 0x87 → decodeCtrl c = .frmr) ∧
    (c.extractLsb' 0 2 = 0b11#2 → c ≠ 0x2F → c ≠ 0x63 → c ≠ 0x43 → c ≠ 0x87 →
      decodeCtrl c = .uReserved (c.extractLsb' 2 6))

/-! ## Steps -/

/-- A malformed request is answered INVALID_DATA (−4) with empty DOUT, whatever the state and the port, and changes nothing
(R134). -/
def Obligations.MalformedRequestRefused : Prop :=
  ∀ s p now rest q r l, RunsNext p now rest q s → q.cmd = .idle → q.proc = none → q.queue = .request r :: l → Malformed r →
    ∃ t, step s = .next t ∧
      AnsweredOnly (State.modPort { s with now := now, port := p, ticks := rest } p (fun q => { q with queue := l })) t (-4) []

/-- A step runs the decoded instruction: an idle port takes the request at the head of its queue, and the step is `exec` of the
instruction that the request, or the host procedure, stands for (R130, R147, R470). With no schedule entry left the block keeps
its state; an idle port with nothing waiting changes nothing; a port that carries a command goes on with it (R46, R113, R545).
That the order of micro-steps stands in `ticks` is the model's choice (log 1, log 19). -/
def Obligations.StepRunsDecoded : Prop :=
  (∀ s p now rest q l, RunsNext p now rest q s → q.cmd = .idle → q.proc = none →
    let s1 := State.modPort { s with now := now, port := p, ticks := rest } p (fun q => { q with queue := l })
    (∀ r i, q.queue = .request r :: l → decodeRequest r = .ok i → step s = exec i s1) ∧
    (∀ ws, q.queue = .runTx ws :: l → step s = exec (.runTx ws) s1) ∧
    (∀ rs, q.queue = .runRx rs :: l → step s = exec (.runRx rs) s1) ∧
    (∀ b, q.queue = .send b :: l → step s = exec (.send b) s1)) ∧
  (∀ s, s.ticks = [] → step s = .next s) ∧
  (∀ s p now rest q, RunsNext p now rest q s → q.cmd = .idle → q.proc = none → q.queue = [] →
    step s = .next { s with now := now, port := p, ticks := rest }) ∧
  (∀ s p now rest q, RunsNext p now rest q s → q.cmd ≠ .idle →
    step s = .next (microStep q.cmd { s with now := now, port := p, ticks := rest }))

/-- A step runs the received frame: when RX_PUT reaches the flag that ends a frame of good length, good CRC and address 0xFF,
the step is `exec` of the instruction its control octet decodes to; then `dec_len` is 0 and the RX_PUT goes on or is done (R238,
R239, R241, R360, R477).
The carry bits of the frame lengths are the model's own (log 6). -/
def Obligations.StepRunsFrame : Prop :=
  ∀ s now rest q more, RunsNext .rxp now rest q s → q.cmd = .rxPut (0x7E :: more) → Running s → s.dec.state = .reading →
    2 + s.eff.crcLen.toNat ≤ s.dec.stored →
    memRead s.dec.buf .rx (s.dec.stored - s.eff.crcLen.toNat) s.eff.crcLen.toNat =
      crcBytes s.crcKind (memRead s.dec.buf .rx 0 (s.dec.stored - s.eff.crcLen.toNat)) →
    s.dec.buf.read .rx 0 = 0xFF →
    ∃ u t, exec (decodeCtrl (s.dec.buf.read .rx 1)) { s with now := now, port := .rxp, ticks := rest } = .next u ∧
      step s = .next t ∧
      (more = [] → AnsweredOnly { u with dec := { u.dec with len := 0, lenOver := false } } t 0 []) ∧
      (more ≠ [] → SameBlock { u with dec := { u.dec with len := 0, lenOver := false } } t ∧ SameInputs u t ∧ NowBusy (.rxPut more) u t)

/-- Hardware reset from any state, and the state right after reset: every element at its value of R49 and R39, every port idle
and every channel empty (R49, R570). RAM is not written, which is how the model says "unspecified" (log 5);
that reset is an entry of the schedule is the model's choice (log 15).
The carry bits of the frame lengths are the model's own (log 6). -/
def Obligations.HardwareReset : Prop :=
  (∀ s now rest, s.ticks = ⟨now, .reset⟩ :: rest → ∃ t, step s = .next t ∧ SameBlock { State.reset with params := s.params } t ∧
    ∀ p q, s.port? p = some q → ∃ q', t.port? p = some q' ∧ q'.cmd = .idle ∧ q'.events = []) ∧
  State.reset.fsm = .uninit ∧ State.reset.closing = false ∧
  State.reset.cfg = ⟨0, 0, 0x00, 0, 0, 0, 0, 0, false⟩ ∧ State.reset.eff = ⟨0, 0, 0, 0, 0, 0, 0, 0, 0, false⟩ ∧
  State.reset.win = ⟨0, 0, 0, 0⟩ ∧
  State.reset.flag = ⟨false, false, false, false, false, false, false, false, false, false⟩ ∧
  State.reset.ctr = ⟨0, 0, 0, 0⟩ ∧ State.reset.tim = ⟨0, 0, 0, 0, 0⟩ ∧
  State.reset.ring.head = 0 ∧ State.reset.ring.count = 0 ∧ State.reset.ring.slots.length = 7 ∧
  (∀ x ∈ State.reset.ring.slots, x.state = .free ∧ x.seq = 0 ∧ x.retriesLeft = 0 ∧ x.len = 0 ∧ x.sentAt = 0) ∧
  State.reset.dec.state = .hunt ∧ State.reset.dec.len = 0 ∧ State.reset.dec.lenOver = false ∧
  State.reset.enc.phase = .idle ∧ State.reset.enc.lastFlag = false ∧ State.reset.enc.txfLen = 0 ∧
  State.reset.enc.txfLenOver = false ∧ State.reset.enc.txfPos = 0 ∧ State.reset.enc.txfPosOver = false ∧
  State.reset.enc.txfSlotValid = false ∧ State.reset.enc.txfSlot = 0 ∧
  (∀ p q, State.reset.port? p = some q → q.cmd = .idle ∧ q.events = [])

/-! ## Session commands -/

/-- INIT (R471, R40, R445, R446, R572): it fails with FAILED (−1) and changes nothing outside UNINIT, while closing, or on a
configuration that its checks refuse; else it latches the effective registers, sets every session element to its "after INIT"
value, enters DISCONNECTED and answers SUCCESS. `code` and `len` are the resolved CRC code and its length (R200, R207);
that RAM reads as unwritten afterwards is the model's choice (log 5).
The carry bits of the frame lengths are the model's own (log 6). -/
def Obligations.InitCommand : Prop :=
  ∀ s : State,
    let c := s.cfg
    let rt : Time := if c.retryTimeout ≠ 0 then c.retryTimeout
      else BitVec.ofNat 32 (c.sendTimeout.toNat / (c.retries.toNat + 1))
    let codes : List (Byte × Byte × Nat) :=
      [(0x00, 0x10, 2), (0x08, 0x08, 1), (0x10, 0x10, 2), (0x20, 0x20, 4), (0xFF, 0xFF, 0)]
    let size := fun len : Nat =>
      c.window.toNat * (c.mtu.toNat + 2 + len + s.params.slotOverhead) + (c.mtu.toNat + 2 + len) + s.params.fixedOverhead
    (s.fsm ≠ .uninit ∨ s.closing = true ∨ c.mtu.toNat < 1 ∨ s.params.mtuMax < c.mtu.toNat ∨ c.window.toNat < 1 ∨
        (∀ code len, (c.crc, code, len) ∉ codes) ∨ rt = 0 ∨
        (∃ code len, (c.crc, code, len) ∈ codes ∧ s.params.bufBytes < size len) →
      ∃ t, exec .init s = .next t ∧ AnsweredOnly s t (-1) []) ∧
    ∀ code len, (c.crc, code, len) ∈ codes → s.fsm = .uninit → s.closing = false → 1 ≤ c.mtu.toNat →
      c.mtu.toNat ≤ s.params.mtuMax → 1 ≤ c.window.toNat → rt ≠ 0 → size len ≤ s.params.bufBytes →
      ∃ t, exec .init s = .next t ∧
        AnsweredOnly
          { s with
            eff := ⟨c.mtu, c.window, code, BitVec.ofNat 8 len, c.sendTimeout, rt, c.retries, c.kaTimeout,
                    (if c.ackDefer.toNat ≤ rt.toNat / 2 then c.ackDefer else BitVec.ofNat 32 (rt.toNat / 2)), c.acceptDisc⟩
            fsm := .disconnected
            closing := false
            win := ⟨0, 0, 0, 0⟩
            flag := ⟨false, false, false, false, false, false, false, false, false, false⟩
            ctr := { s.ctr with uRetriesLeft := 0, kaUnanswered := 0, crcErrCnt := 0 }
            tim := ⟨s.now, 0, 0, s.now, 0⟩
            ring := ⟨0, 0, List.replicate 7 ⟨.free, 0, 0, 0, 0, []⟩⟩
            dec := ⟨.hunt, 0, false, []⟩
            enc := ⟨.idle, false, [], 0, false, 0, false, false, 0⟩ }
          t 0 []

/-- CLOSE, phase 1 (R472): in a session that is not closing it sets `closing`, increments `fail_gen`, and keeps its port busy;
a second CLOSE is FAILED (−1). -/
def Obligations.ClosePhaseOne : Prop :=
  ∀ s : State, s.fsm ≠ .uninit →
    (s.closing = true → ∃ t, exec .close s = .next t ∧ AnsweredOnly s t (-1) []) ∧
    (s.closing = false → ∃ t, exec .close s = .next t ∧
      SameBlock { s with closing := true, ctr := { s.ctr with failGen := s.ctr.failGen + 1 } } t ∧ SameInputs s t ∧
      NowBusy .close s t)

/-- CLOSE, phase 2 (R473): held, with nothing changed, while a TX_GET or an RX_PUT is in progress; else it raises one SENT
event for each occupied slot, in ring order, at its own port, sets every session element to its hardware-reset value, enters
UNINIT and answers SUCCESS. CFG, `fail_gen`, `crc_err_cnt` and the channels stay. That the other ports keep their commands is
the model's reading (log 7); that RAM reads as unwritten afterwards, where R49 says "unspecified", is its choice (log 5). The
carry bits of the frame lengths are the model's own (log 6). -/
def Obligations.ClosePhaseTwo : Prop :=
  ∀ s p now rest q, RunsNext p now rest q s → q.cmd = .close →
    let s1 : State := { s with now := now, port := p, ticks := rest }
    ((∃ n d e, s.txp.cmd = .txGet n d e) ∨ (∃ d, s.rxp.cmd = .rxPut d) → step s = .next s1) ∧
    ((∀ n d e, s.txp.cmd ≠ .txGet n d e) → (∀ d, s.rxp.cmd ≠ .rxPut d) →
      ∃ t, step s = .next t ∧
        AnsweredOnly
          (State.modPort
            { s1 with
              eff := ⟨0, 0, 0, 0, 0, 0, 0, 0, 0, false⟩
              fsm := .uninit
              closing := false
              win := ⟨0, 0, 0, 0⟩
              flag := ⟨false, false, false, false, false, false, false, false, false, false⟩
              ctr := { s.ctr with uRetriesLeft := 0, kaUnanswered := 0 }
              tim := ⟨0, 0, 0, 0, 0⟩
              ring := ⟨0, 0, List.replicate 7 ⟨.free, 0, 0, 0, 0, []⟩⟩
              dec := ⟨.hunt, 0, false, []⟩
              enc := ⟨.idle, false, [], 0, false, 0, false, false, 0⟩ }
            p (fun q => { q with events := q.events ++ s.ringOrder.map (fun i =>
              .sent (if (s.slot i).state = .acked then .ok else .failed) 0xFF (s.slotPayload i)) }))
          t 0 [])

/-- STATUS (R474), GET_MTU (R480) and SET_KA_TIMEOUT (R481): in a session, closing or not, and INVALID_DATA (−4) in UNINIT. -/
def Obligations.SessionQueries : Prop :=
  ∀ (s : State) (ms : Time),
    (s.fsm = .uninit → ∀ i ∈ [Instr.status, .getMtu, .setKaTimeout ms], ∃ t, exec i s = .next t ∧ AnsweredOnly s t (-4) []) ∧
    (s.fsm ≠ .uninit →
      (s.fsm = .connected → ∃ t, exec .status s = .next t ∧ AnsweredOnly s t 0 []) ∧
      (s.fsm ≠ .connected → ∃ t, exec .status s = .next t ∧ AnsweredOnly s t (-1) []) ∧
      (∃ t, exec .getMtu s = .next t ∧ AnsweredOnly s t (BitVec.ofNat 32 s.eff.mtu.toNat) []) ∧
      (∃ t, exec (.setKaTimeout ms) s = .next t ∧ AnsweredOnly { s with eff := { s.eff with kaTimeout := ms } } t 0 []))

/-- DISCONNECT (R475, R404): queued in CONNECTED, nothing to do in DISCONNECTED, BUSY (−5) in CONNECTING and DISCONNECTING; FAILED
(−1) while closing, INVALID_DATA (−4) in UNINIT. -/
def Obligations.DisconnectCommand : Prop :=
  ∀ s : State,
    (s.fsm = .uninit → ∃ t, exec .disconnect s = .next t ∧ AnsweredOnly s t (-4) []) ∧
    (s.fsm ≠ .uninit → s.closing = true → ∃ t, exec .disconnect s = .next t ∧ AnsweredOnly s t (-1) []) ∧
    (s.closing = false → s.fsm = .connected → ∃ t, exec .disconnect s = .next t ∧
      AnsweredOnly
        { s with
          fsm := .disconnecting
          flag := { s.flag with discPending := true, sabmPending := false, uTimerRunning := false, frmrOwed := false,
                                rejOwed := false, ackOwed := false, pollOwed := false }
          ctr := { s.ctr with uRetriesLeft := s.eff.retries } }
        t 0 []) ∧
    (s.closing = false → s.fsm = .disconnected → ∃ t, exec .disconnect s = .next t ∧ AnsweredOnly s t 0 []) ∧
    (s.closing = false → s.fsm = .connecting ∨ s.fsm = .disconnecting →
      ∃ t, exec .disconnect s = .next t ∧ AnsweredOnly s t (-5) [])

/-- Commands turned away by their port, by UNINIT or by `closing`: the result, DOUT empty, nothing else changed (R470, R472,
R571, R581). -/
def Obligations.CommandsTurnedAway : Prop :=
  ∀ (s : State) (n : BitVec 16) (bytes : List Byte) (ms : Time),
    (s.port ≠ .txp → ∃ t, exec (.txGet n) s = .next t ∧ AnsweredOnly s t (-4) []) ∧
    (s.port ≠ .rxp → ∃ t, exec (.rxPut bytes) s = .next t ∧ AnsweredOnly s t (-4) []) ∧
    ((∀ a, s.port ≠ .app a) → ∃ t, exec (.sendPacket bytes) s = .next t ∧ AnsweredOnly s t (-4) []) ∧
    (s.fsm = .uninit →
      ∀ i ∈ [Instr.close, .status, .disconnect, .txGet n, .rxPut bytes, .sendPacket bytes, .getMtu, .setKaTimeout ms],
        ∃ t, exec i s = .next t ∧ AnsweredOnly s t (-4) []) ∧
    (s.fsm ≠ .uninit → s.closing = true →
      (s.port = .txp → ∃ t, exec (.txGet n) s = .next t ∧ AnsweredOnly s t 0 []) ∧
      (s.port = .rxp → ∃ t, exec (.rxPut bytes) s = .next t ∧ AnsweredOnly s t 0 []) ∧
      (∀ a, s.port = .app a → ∃ t, exec (.sendPacket bytes) s = .next t ∧ AnsweredOnly s t (-1) []) ∧
      (∃ t, exec .disconnect s = .next t ∧ AnsweredOnly s t (-1) []) ∧
      (∃ t, exec .init s = .next t ∧ AnsweredOnly s t (-1) []))

/-! ## The data path -/

/-- TX_GET at TXP begins: its prologue runs TimerPhase and DeliverCompletions, and the port is busy with the bytes to come
(R476). What the two procedures do is said by other statements. -/
def Obligations.TxGetPrologue : Prop :=
  ∀ (s : State) (n : BitVec 16), s.port = .txp → Running s →
    ∃ t, exec (.txGet n) s = .next t ∧ SameBlock (deliverCompletions (timerPhase s)) t ∧ SameInputs s t ∧
      NowBusy (.txGet n [] false) (deliverCompletions (timerPhase s)) t

/-- TX_GET goes on (R476): while bytes are left it takes the next byte of EncodeStep into DOUT; closing, or nothing ready, ends
the loop; the epilogue frees completed slots and answers with the number of bytes. That the end of the loop and the
epilogue are two micro-steps is the model's reading (log 9). -/
def Obligations.TxGetGoesOn : Prop :=
  ∀ s now rest q left dout ended, RunsNext .txp now rest q s → q.cmd = .txGet left dout ended →
    let s1 : State := { s with now := now, port := .txp, ticks := rest }
    (ended = true ∨ left = 0 →
      ∃ t, step s = .next t ∧ AnsweredOnly (deliverCompletions s1) t (BitVec.ofNat 32 dout.length) dout) ∧
    (ended = false → left ≠ 0 → s.closing = true →
      ∃ t, step s = .next t ∧ SameBlock s1 t ∧ SameInputs s1 t ∧ NowBusy (.txGet left dout true) s1 t) ∧
    (ended = false → left ≠ 0 → s.closing = false → (encodeStep s1).2 = none →
      ∃ t, step s = .next t ∧ SameBlock (encodeStep s1).1 t ∧ SameInputs s1 t ∧ NowBusy (.txGet left dout true) s1 t) ∧
    (∀ b, ended = false → left ≠ 0 → s.closing = false → (encodeStep s1).2 = some b →
      ∃ t, step s = .next t ∧ SameBlock (encodeStep s1).1 t ∧ SameInputs s1 t ∧
        NowBusy (.txGet (left - 1) (dout ++ [b]) false) s1 t)

/-- RX_PUT at RXP (R477): with no bytes it answers SUCCESS; else each micro-step gives one byte to the decoder, the last one
answers SUCCESS, and closing discards the rest. That acceptance is a micro-step of its own is the model's choice (log 8). -/
def Obligations.RxPutBytes : Prop :=
  (∀ (s : State) (din : List Byte), s.port = .rxp → Running s →
    (din = [] → ∃ t, exec (.rxPut din) s = .next t ∧ AnsweredOnly s t 0 []) ∧
    (din ≠ [] → ∃ t, exec (.rxPut din) s = .next t ∧ SameBlock s t ∧ SameInputs s t ∧ NowBusy (.rxPut din) s t)) ∧
  (∀ s now rest q b more, RunsNext .rxp now rest q s → q.cmd = .rxPut (b :: more) →
    let s1 : State := { s with now := now, port := .rxp, ticks := rest }
    (s.closing = true → ∃ t, step s = .next t ∧ AnsweredOnly s1 t 0 []) ∧
    (s.closing = false → more = [] → ∃ t, step s = .next t ∧ AnsweredOnly (decodeByte b s1) t 0 []) ∧
    (s.closing = false → more ≠ [] →
      ∃ t, step s = .next t ∧ SameBlock (decodeByte b s1) t ∧ SameInputs s1 t ∧ NowBusy (.rxPut more) (decodeByte b s1) t))

/-- SEND_PACKET, issue (R478, R411, R402): INVALID_DATA (−4) at another port than an APP port and in UNINIT, FAILED (−1) while
closing, DATA_TOO_LARGE (−3) where it is too long; else the payload is held with NOW_MS and `fail_gen`, and DISCONNECTED goes to
CONNECTING. -/
def Obligations.SendPacketIssue : Prop :=
  ∀ (s : State) (payload : List Byte),
    ((∀ a, s.port ≠ .app a) ∨ s.fsm = .uninit → ∃ t, exec (.sendPacket payload) s = .next t ∧ AnsweredOnly s t (-4) []) ∧
    ∀ a, s.port = .app a → s.fsm ≠ .uninit →
    (s.closing = true → ∃ t, exec (.sendPacket payload) s = .next t ∧ AnsweredOnly s t (-1) []) ∧
    (s.closing = false → s.eff.mtu.toNat < payload.length →
      ∃ t, exec (.sendPacket payload) s = .next t ∧ AnsweredOnly s t (-3) []) ∧
    (s.closing = false → payload.length ≤ s.eff.mtu.toNat →
      ∃ t, exec (.sendPacket payload) s = .next t ∧ SameInputs s t ∧ NowBusy (.sendPacket payload s.now s.ctr.failGen) s t ∧
        (s.fsm ≠ .disconnected → SameBlock s t) ∧
        (s.fsm = .disconnected → SameBlock
          { s with
            fsm := .connecting
            flag := { s.flag with sabmPending := true, discPending := false, uTimerRunning := false }
            ctr := { s.ctr with uRetriesLeft := s.eff.retries } } t))

/-- SEND_PACKET, completion (R479, R305, R306): cancelled (−1), else enqueued (0), else past its deadline (−2), else held with
nothing changed. SlotRAM beyond the payload stays as it was: the model's choice (log 27). -/
def Obligations.SendPacketCompletion : Prop :=
  ∀ s p now rest q payload tIssue gen, RunsNext p now rest q s → q.cmd = .sendPacket payload tIssue gen →
    let s1 : State := { s with now := now, port := p, ticks := rest }
    let cancelled := s.closing = true ∨ s.fsm = .uninit ∨ s.ctr.failGen ≠ gen
    let room := s.ring.count.toNat < s.w ∧ (s.fsm = .connected ∨ (s.eff.acceptDisc = true ∧ s.fsm ≠ .uninit))
    let late := s.eff.sendTimeout.toNat ≤ (now - tIssue).toNat
    (cancelled → ∃ t, step s = .next t ∧ AnsweredOnly s1 t (-1) []) ∧
    (¬ cancelled → room → ∃ t, step s = .next t ∧
      AnsweredOnly
        { s1 with ring := { s.ring with
            count := s.ring.count + 1
            slots := s.ring.slots.modify ((s.ring.head.toNat + s.ring.count.toNat) % s.w) (fun x =>
              { state := .queued, seq := 0, retriesLeft := s.eff.retries, len := BitVec.ofNat 16 payload.length, sentAt := 0,
                ram := memWrite x.ram 0 payload }) } }
        t 0 []) ∧
    (¬ cancelled → ¬ room → late → ∃ t, step s = .next t ∧ AnsweredOnly s1 t (-2) []) ∧
    (¬ cancelled → ¬ room → ¬ late → step s = .next s1)

/-- The issue and the completion of SEND_PACKET append no event to any channel (R120, R538). -/
def Obligations.SendPacketRaisesNoEvent : Prop :=
  (∀ s payload t, exec (.sendPacket payload) s = .next t →
    ∀ p q, s.port? p = some q → ∃ q', t.port? p = some q' ∧ q'.events = q.events) ∧
  (∀ s p now rest q payload tIssue gen t, RunsNext p now rest q s → q.cmd = .sendPacket payload tIssue gen → step s = .next t →
    ∀ p q, s.port? p = some q → ∃ q', t.port? p = some q' ∧ q'.events = q.events)

/-- Enqueue puts the payload in the first slot after the ring, where it reads back as given; every other slot, its storage
included, is as before, and the slot is the last in ring order (R103, R300, R305). -/
def Obligations.EnqueueKeepsPayload : Prop :=
  ∀ (s : State) (payload : List Byte), RingInv s → s.fsm ≠ .uninit → s.ring.count.toNat < s.w → payload.length < 65536 →
    let i := (s.ring.head.toNat + s.ring.count.toNat) % s.w
    let t := enqueue payload s
    (s.slot i).state = .free ∧ (t.slot i).state = .queued ∧ (t.slot i).len.toNat = payload.length ∧
      t.slotPayload i = payload ∧ (∀ j, j ≠ i → t.slot j = s.slot j) ∧ t.ringOrder = s.ringOrder ++ [i]

/-- DeliverCompletions (R307): the `k` finished slots at the front of the ring are freed, one SENT event for each goes to TXP in
ring order, the slot tag of the encoder is dropped if it names one of them, and nothing else changes. -/
def Obligations.CompletionsDelivered : Prop :=
  ∀ s : State, RingInv s →
    let k := (s.ringSlots.takeWhile (fun x => decide (x.state = .acked ∨ x.state = .failed))).length
    let done := s.ringOrder.take k
    deliverCompletions s =
      { s with
        txp := { s.txp with events := s.txp.events ++ done.map (fun i =>
          .sent (if (s.slot i).state = .acked then .ok else .failed) 0xFF (s.slotPayload i)) }
        enc := { s.enc with txfSlotValid := s.enc.txfSlotValid && !decide (s.enc.txfSlot.toNat ∈ done) }
        ring :=
          { head := BitVec.ofNat 3 ((s.ring.head.toNat + k) % s.w)
            count := s.ring.count - BitVec.ofNat 3 k
            slots := s.ring.slots.mapIdx (fun i x =>
              if i ∈ done then { x with state := .free, seq := 0, retriesLeft := 0, len := 0, sentAt := 0 } else x) } }

/-! ## Frame selection -/

/-- Priority 1 (R309, R314): UA, then FRMR, then SABM, then DISC; SABM and DISC start the U timer. With none of them SelectU
selects nothing.
TxBuf beyond the frame stays as it was: the model's choice (log 27). -/
def Obligations.PriorityOne : Prop :=
  ∀ s : State,
    let u := timerPhase s
    let e := { u.enc with txfSlotValid := false }
    let tm := { u.tim with lastTx := u.now }
    (u.flag.uaOwed = true → Selects s { u with flag := { u.flag with uaOwed := false }, tim := tm, enc := e } 0x63 []) ∧
    (u.flag.uaOwed = false → u.flag.frmrOwed = true →
      Selects s { u with flag := { u.flag with frmrOwed := false }, tim := tm, enc := e } 0x87 []) ∧
    (u.flag.uaOwed = false → u.flag.frmrOwed = false → u.flag.sabmPending = true →
      Selects s { u with flag := { u.flag with sabmPending := false, uTimerRunning := true },
                         tim := { tm with uSentAt := u.now }, enc := e } 0x2F []) ∧
    (u.flag.uaOwed = false → u.flag.frmrOwed = false → u.flag.sabmPending = false → u.flag.discPending = true →
      Selects s { u with flag := { u.flag with discPending := false, uTimerRunning := true },
                         tim := { tm with uSentAt := u.now }, enc := e } 0x43 []) ∧
    (NoUnnumbered u → selectU u = none)

/-- Priority 2 (R310, R315, R314), in CONNECTED: REJ if one is owed, else RR if a poll is owed or the defer window is over, else
SelectAck selects nothing.
TxBuf beyond the frame stays as it was: the model's choice (log 27). -/
def Obligations.PriorityTwo : Prop :=
  (∀ u : State, NoAckDue u → selectAck u = none) ∧
  ∀ s : State,
    let u := timerPhase s
    let v := { u with win := { u.win with lastNrSent := u.win.nextNr }
                      tim := { u.tim with lastTx := u.now }
                      enc := { u.enc with txfSlotValid := false } }
    u.fsm = .connected → NoUnnumbered u →
    (u.flag.rejOwed = true →
      Selects s { v with flag := { u.flag with rejOwed := false, ackOwed := false, pollOwed := false } }
        (0x05#8 ||| (u.win.nextNr.setWidth 8 <<< 5)) []) ∧
    (u.flag.rejOwed = false →
      (u.flag.pollOwed = true ∨ (u.flag.ackOwed = true ∧ u.eff.ackDefer.toNat ≤ (u.now - u.tim.ackSince).toNat)) →
      Selects s { v with flag := { u.flag with ackOwed := false, pollOwed := false } }
        (0x01#8 ||| (u.win.nextNr.setWidth 8 <<< 5)) [])

/-- Priority 3 (R311, R315, R314), in CONNECTED: the first QUEUED slot is given N(S) = `next_ns`, and its I frame goes out with
N(R) = `next_nr` and P/F 0. Where the peer is busy, nothing is QUEUED or the window is full, SelectNew selects nothing.
TxBuf beyond the frame stays as it was: the model's choice (log 27). -/
def Obligations.PriorityThree : Prop :=
  (∀ u : State, NoNewFrame u → selectNew u = none) ∧
  ∀ (s : State) (i : Nat),
    let u := timerPhase s
    u.fsm = .connected → NoUnnumbered u → NoAckDue u → u.flag.peerBusy = false → u.ring.slots.length = 7 →
    FirstInRing u (fun x => x.state = .queued) i → (u.win.nextNs - u.win.confirmNs).toNat < u.w →
    Selects s
      { u with
        win := { u.win with nextNs := u.win.nextNs + 1, lastNrSent := u.win.nextNr }
        flag := { u.flag with ackOwed := false }
        tim := { u.tim with lastTx := u.now }
        ring := { u.ring with slots := u.ring.slots.modify i (fun x =>
          { x with state := .inFlight, seq := u.win.nextNs, sentAt := u.now }) }
        enc := { u.enc with txfSlot := BitVec.ofNat 3 i, txfSlotValid := true } }
      ((u.win.nextNs.setWidth 8 <<< 1) ||| (u.win.nextNr.setWidth 8 <<< 5)) (u.slotPayload i)

/-- Priority 4 (R312, R315, R314), in CONNECTED with nothing new to send: the first slot whose retry timer is over and that has
retries left is sent again with its old N(S). Where the peer is busy or no slot is so, SelectRetx selects nothing.
TxBuf beyond the frame stays as it was: the model's choice (log 27). -/
def Obligations.PriorityFour : Prop :=
  (∀ u : State, NoRetransmission u → selectRetx u = none) ∧
  ∀ (s : State) (i : Nat),
    let u := timerPhase s
    u.fsm = .connected → NoUnnumbered u → NoAckDue u → NoNewFrame u → u.flag.peerBusy = false → u.ring.slots.length = 7 →
    FirstInRing u (Due u) i →
    Selects s
      { u with
        win := { u.win with lastNrSent := u.win.nextNr }
        flag := { u.flag with ackOwed := false }
        tim := { u.tim with lastTx := u.now }
        ring := { u.ring with slots := u.ring.slots.modify i (fun x =>
          { x with state := .inFlight, retriesLeft := x.retriesLeft - 1, sentAt := u.now }) }
        enc := { u.enc with txfSlot := BitVec.ofNat 3 i, txfSlotValid := true } }
      (((u.slot i).seq.setWidth 8 <<< 1) ||| (u.win.nextNr.setWidth 8 <<< 5)) (u.slotPayload i)

/-- Priority 5 (R313, R315, R314), in CONNECTED with nothing else to send: an idle `ka_timeout` gives RR with P/F 1. Where no
priority applies, nothing is sent and only the timers have acted (R308).
TxBuf beyond the frame stays as it was: the model's choice (log 27). -/
def Obligations.PriorityFiveOrNothing : Prop :=
  ∀ s : State,
    let u := timerPhase s
    NoUnnumbered u →
    (u.fsm = .connected → NoAckDue u → NoNewFrame u → NoRetransmission u →
      (u.eff.kaTimeout ≠ 0 → u.eff.kaTimeout.toNat ≤ (u.now - u.tim.lastTx).toNat →
        Selects s
          { u with
            win := { u.win with lastNrSent := u.win.nextNr }
            flag := { u.flag with ackOwed := false, pollOwed := false }
            ctr := { u.ctr with kaUnanswered := u.ctr.kaUnanswered + 1 }
            tim := { u.tim with lastTx := u.now }
            enc := { u.enc with txfSlotValid := false } }
          (0x11#8 ||| (u.win.nextNr.setWidth 8 <<< 5)) []) ∧
      (u.eff.kaTimeout = 0 ∨ (u.now - u.tim.lastTx).toNat < u.eff.kaTimeout.toNat → selectFrame s = (u, false))) ∧
    (u.fsm ≠ .connected → selectFrame s = (u, false))

/-! ## The framer -/

/-- The encoder (R232, R233, R235): from IDLE, a selected frame `x` goes out as an opening flag unless flags are shared, then
Stuff(x), then a closing flag, one byte for each call; then the encoder is IDLE, `enc_last_flag` is 1, and the slot whose
frame it was goes from IN_FLIGHT to AWAITING_ACK.
The carry bits of the frame lengths are the model's own (log 6). -/
def Obligations.EncoderEmitsFrame : Prop :=
  ∀ s u : State, s.enc.phase = .idle → selectFrame s = (u, true) →
    let bytes := (if u.enc.lastFlag = true then [] else [0x7E]) ++ stuff (u.txFrame u.enc.txfBytes) ++ [0x7E]
    encodeSteps bytes.length s =
      ({ u with
          enc := { u.enc with phase := .idle, lastFlag := true, txfPos := u.enc.txfLen, txfPosOver := u.enc.txfLenOver,
                              txfSlotValid := false }
          ring := { u.ring with slots :=
            if u.enc.txfSlotValid = true then
              u.ring.slots.modify u.enc.txfSlot.toNat (fun x =>
                if x.state = .inFlight then { x with state := .awaitingAck } else x)
            else u.ring.slots } }, bytes)

/-- The decoder (R247): feeding FLAG, Stuff(x), FLAG to a decoder in HUNT, or in READING with nothing stored, runs
ProcessFrame once on `x`, for every interior `x` of legal length with a good CRC, and leaves it in READING with nothing stored.
The carry bits of the frame lengths are the model's own (log 6). -/
def Obligations.DecoderRoundTrip : Prop :=
  ∀ (s : State) (body : List Byte),
    (s.dec.state = .hunt ∨ (s.dec.state = .reading ∧ s.dec.stored = 0)) → s.eff.crcLen.toNat = s.crcKind.len →
    let x := body ++ crcBytes s.crcKind body
    2 ≤ body.length → x.length ≤ s.rxCapacity →
    let s1 : State := { s with dec := ⟨.reading, BitVec.ofNat 16 x.length, decide (65536 ≤ x.length), memWrite s.dec.buf 0 x⟩ }
    decodeBytes ([0x7E] ++ stuff x ++ [0x7E]) s = { processFrame s1 with dec := { s1.dec with len := 0, lenOver := false } } ∧
    memRead s1.dec.buf .rx 0 x.length = x ∧ s1.rxPayload = body.drop 2

/-- Frames cross the link: the bytes that one block's encoder emits for a frame, fed to another block's idle decoder with
the same CRC kind, are the receipt of that frame: the instruction its control octet decodes to, with its payload (R231–R233,
R247, R360).
The carry bits of the frame lengths are the model's own (log 6). -/
def Obligations.LinkCarriesFrames : Prop :=
  ∀ (a u r : State) (c : Byte) (p : List Byte),
    a.enc.phase = .idle → selectFrame a = (u, true) → Staged c p u → u.enc.lastFlag = false →
    r.dec.state = .hunt → r.crcKind = u.crcKind → r.eff.crcLen.toNat = r.crcKind.len →
    (interior u.crcKind c p).length ≤ r.rxCapacity →
    let x := interior u.crcKind c p
    let r1 : State := { r with dec := ⟨.reading, BitVec.ofNat 16 x.length, decide (65536 ≤ x.length), memWrite r.dec.buf 0 x⟩ }
    r1.rxPayload = p ∧
      ∃ v, exec (decodeCtrl c) r1 = .next v ∧
        decodeBytes (encodeSteps ((stuff x).length + 2) a).2 r = { v with dec := { v.dec with len := 0, lenOver := false } }

/-- What the decoder does with every byte but the flag that ends a good frame with the address 0xFF (R238, R239, R240, R242, R243,
R244).
The carry bits of the frame lengths are the model's own (log 6). -/
def Obligations.DecoderDrops : Prop :=
  ∀ (s : State) (b : Byte),
    (s.dec.state = .hunt → b ≠ 0x7E → decodeByte b s = s) ∧
    (s.dec.state = .hunt → decodeByte 0x7E s = { s with dec := { s.dec with state := .reading, len := 0, lenOver := false } }) ∧
    (s.dec.state = .escape → decodeByte 0x7E s = { s with dec := { s.dec with state := .reading, len := 0, lenOver := false } }) ∧
    (s.dec.state = .reading → decodeByte 0x7D s = { s with dec := { s.dec with state := .escape } }) ∧
    (s.dec.state = .reading → b ≠ 0x7E → b ≠ 0x7D → s.dec.stored = s.rxCapacity →
      decodeByte b s = { s with dec := { s.dec with state := .hunt, len := 0, lenOver := false } }) ∧
    (s.dec.state = .reading → b ≠ 0x7E → b ≠ 0x7D → s.dec.stored ≠ s.rxCapacity →
      decodeByte b s = { s with dec :=
        ⟨.reading, s.dec.len + 1, decide (65536 ≤ s.dec.stored + 1), s.dec.buf.write s.dec.stored b⟩ }) ∧
    (s.dec.state = .escape → b ≠ 0x7E → s.dec.stored = s.rxCapacity →
      decodeByte b s = { s with dec := { s.dec with state := .hunt, len := 0, lenOver := false } }) ∧
    (s.dec.state = .escape → b ≠ 0x7E → s.dec.stored ≠ s.rxCapacity →
      decodeByte b s = { s with dec :=
        ⟨.reading, s.dec.len + 1, decide (65536 ≤ s.dec.stored + 1), s.dec.buf.write s.dec.stored (b ^^^ 0x20)⟩ }) ∧
    (s.dec.state = .reading → s.dec.stored < 2 + s.eff.crcLen.toNat →
      decodeByte 0x7E s = { s with dec := { s.dec with len := 0, lenOver := false } }) ∧
    (s.dec.state = .reading → 2 + s.eff.crcLen.toNat ≤ s.dec.stored →
      memRead s.dec.buf .rx (s.dec.stored - s.eff.crcLen.toNat) s.eff.crcLen.toNat ≠
        crcBytes s.crcKind (memRead s.dec.buf .rx 0 (s.dec.stored - s.eff.crcLen.toNat)) →
      decodeByte 0x7E s =
        { s with
          dec := { s.dec with len := 0, lenOver := false }
          ctr := { s.ctr with crcErrCnt := s.ctr.crcErrCnt + 1 }
          rxp := { s.rxp with events := s.rxp.events ++ [.framerError] } }) ∧
    (s.dec.state = .reading → 2 + s.eff.crcLen.toNat ≤ s.dec.stored →
      memRead s.dec.buf .rx (s.dec.stored - s.eff.crcLen.toNat) s.eff.crcLen.toNat =
        crcBytes s.crcKind (memRead s.dec.buf .rx 0 (s.dec.stored - s.eff.crcLen.toNat)) →
      s.dec.buf.read .rx 0 ≠ 0xFF → decodeByte 0x7E s = { s with dec := { s.dec with len := 0, lenOver := false } })

/-! ## Received frames -/

/-- ProcessNR (R320, R321): a valid N(R) makes the first mod8(nr − confirm_ns) sent slots ACKED and sets `confirm_ns` to it; an
invalid one changes nothing. -/
def Obligations.ReceivedNR : Prop :=
  ∀ (s : State) (nr : Seq), RingInv s → s.fsm = .connected →
    let sent := s.ringOrder.filter (fun i => decide ((s.slot i).state = .inFlight ∨ (s.slot i).state = .awaitingAck))
    ((nr - s.win.confirmNs).toNat ≤ (s.win.nextNs - s.win.confirmNs).toNat →
      processNR nr s =
        ({ s with
            win := { s.win with confirmNs := nr }
            ring := { s.ring with slots := s.ring.slots.mapIdx (fun i x =>
              if i ∈ sent.take (nr - s.win.confirmNs).toNat then { x with state := .acked } else x) } }, true)) ∧
    ((s.win.nextNs - s.win.confirmNs).toNat < (nr - s.win.confirmNs).toNat → processNR nr s = (s, false))

/-- An in-sequence I frame in CONNECTED (R366, R361, R370). What ProcessNR does to the slots is said by `ReceivedNR`. -/
def Obligations.InSequenceIFrame : Prop :=
  ∀ (s : State) (pf : Bool) (nr : Seq), s.fsm = .connected → s.closing = false →
    exec (.iFrame s.win.nextNr pf nr) s = .next
      { s with
        rxp := { s.rxp with events := s.rxp.events ++ [.frame 0xFF s.rxPayload] }
        win := { s.win with
          nextNr := s.win.nextNr + 1
          confirmNs := if (nr - s.win.confirmNs).toNat ≤ (s.win.nextNs - s.win.confirmNs).toNat then nr else s.win.confirmNs }
        ring := (processNR nr s).1.ring
        tim := { s.tim with ackSince := if s.flag.ackOwed = true then s.tim.ackSince else s.now }
        flag := { s.flag with ackOwed := true, rejSent := false, pollOwed := s.flag.pollOwed || pf }
        ctr := { s.ctr with kaUnanswered := 0 } }

/-- An out-of-sequence I frame in CONNECTED (R367, R361): the first of a gap schedules one REJ, further ones change nothing but
the keep-alive credit. -/
def Obligations.OutOfSequenceIFrame : Prop :=
  ∀ (s : State) (ns : Seq) (pf : Bool) (nr : Seq), s.fsm = .connected → s.closing = false → ns ≠ s.win.nextNr →
    exec (.iFrame ns pf nr) s = .next
      { s with
        flag := { s.flag with rejSent := true, rejOwed := s.flag.rejOwed || !s.flag.rejSent }
        ctr := { s.ctr with kaUnanswered := 0 } }

/-- RR, REJ and RNR without payload in CONNECTED (R368, R322, R323, R361). -/
def Obligations.SupervisoryFrames : Prop :=
  ∀ (s : State) (pf : Bool) (nr : Seq), s.fsm = .connected → s.closing = false → s.rxPayload = [] →
    let valid := (nr - s.win.confirmNs).toNat ≤ (s.win.nextNs - s.win.confirmNs).toNat
    let r := (processNR nr s).1.ring
    let w := { s.win with confirmNs := if valid then nr else s.win.confirmNs }
    let f := fun busy => { s.flag with peerBusy := busy, pollOwed := s.flag.pollOwed || pf }
    let c := { s.ctr with kaUnanswered := 0 }
    exec (.rr pf nr) s = .next { s with ring := r, win := w, flag := f false, ctr := c } ∧
    exec (.rnr pf nr) s = .next { s with ring := r, win := w, flag := f true, ctr := c } ∧
    (¬ valid → exec (.rej pf nr) s = .next { s with ring := r, win := w, flag := f false, ctr := c }) ∧
    (valid → exec (.rej pf nr) s = .next
      { s with
        ring := { r with slots := r.slots.map (fun x =>
          if x.state = .inFlight ∨ x.state = .awaitingAck then { x with state := .queued } else x) }
        win := { w with nextNs := nr }
        flag := f false
        ctr := c })

/-- FRMR triggers (R272, R273, R363, R361): a reserved control octet, or a payload where none may be. In CONNECTED an FRMR is owed;
nothing else changes but the keep-alive credit. -/
def Obligations.FrmrTriggers : Prop :=
  ∀ (s : State) (pf : Bool) (nr : Seq) (kind : BitVec 6), Running s →
    let t := { s with
      flag := { s.flag with frmrOwed := s.flag.frmrOwed || decide (s.fsm = .connected) }
      ctr := { s.ctr with kaUnanswered := 0 } }
    exec (.sReserved pf nr) s = .next t ∧ exec (.uReserved kind) s = .next t ∧
    (s.rxPayload ≠ [] → ∀ i ∈ [Instr.rr pf nr, .rej pf nr, .rnr pf nr, .sabm, .ua, .disc], exec i s = .next t)

/-- Frames that change no more than the keep-alive credit: I and S frames outside CONNECTED (R365), FRMR in every session state and
with every payload (R364), UA in DISCONNECTED and CONNECTED (R408). In UNINIT and while closing no frame is received, and
`exec` of one changes nothing (R246, R571; log 11). -/
def Obligations.FramesWithoutEffect : Prop :=
  ∀ (s : State) (ns : Seq) (pf : Bool) (nr : Seq) (kind : BitVec 6),
    (Running s →
      let t := { s with ctr := { s.ctr with kaUnanswered := 0 } }
      exec .frmr s = .next t ∧
      (s.fsm ≠ .connected → exec (.iFrame ns pf nr) s = .next t) ∧
      (s.fsm ≠ .connected → s.rxPayload = [] → ∀ i ∈ [Instr.rr pf nr, .rej pf nr, .rnr pf nr], exec i s = .next t) ∧
      (s.fsm = .disconnected ∨ s.fsm = .connected → s.rxPayload = [] → exec .ua s = .next t)) ∧
    (s.fsm = .uninit ∨ s.closing = true →
      ∀ i ∈ [Instr.iFrame ns pf nr, .rr pf nr, .rej pf nr, .rnr pf nr, .sReserved pf nr, .sabm, .ua, .disc, .frmr,
             .uReserved kind], exec i s = .next s)

/-- SABM (R407, R406, R403, R410): in CONNECTED every pending slot fails and `fail_gen` is incremented, elsewhere every sent slot
fails; the sequence state is zeroed, a UA is owed, and the block is CONNECTED. -/
def Obligations.SabmReceived : Prop :=
  ∀ s : State, Running s → s.rxPayload = [] →
    exec .sabm s = .next
      { s with
        fsm := .connected
        ring := { s.ring with slots := s.ring.slots.map (fun x =>
          if x.state = .inFlight ∨ x.state = .awaitingAck ∨ (s.fsm = .connected ∧ x.state = .queued)
          then { x with state := .failed } else x) }
        win := ⟨0, 0, 0, 0⟩
        flag := { s.flag with peerBusy := false, rejSent := false, rejOwed := false, ackOwed := false, pollOwed := false,
                              frmrOwed := false, uaOwed := true, sabmPending := false, discPending := false,
                              uTimerRunning := false }
        ctr := { s.ctr with kaUnanswered := 0, failGen := if s.fsm = .connected then s.ctr.failGen + 1 else s.ctr.failGen }
        tim := { s.tim with lastTx := s.now } }

/-- UA (R408, R406, R403, R405, R410): it completes a connection in CONNECTING and a disconnection in DISCONNECTING; in DISCONNECTED
and CONNECTED it gives no more than the keep-alive credit (R361). -/
def Obligations.UaReceived : Prop :=
  ∀ s : State, s.closing = false → s.rxPayload = [] →
    (s.fsm = .disconnected ∨ s.fsm = .connected →
      exec .ua s = .next { s with ctr := { s.ctr with kaUnanswered := 0 } }) ∧
    (s.fsm = .connecting → exec .ua s = .next
      { s with
        fsm := .connected
        ring := { s.ring with slots := s.ring.slots.map (fun x =>
          if x.state = .inFlight ∨ x.state = .awaitingAck then { x with state := .failed } else x) }
        win := ⟨0, 0, 0, 0⟩
        flag := { s.flag with peerBusy := false, rejSent := false, rejOwed := false, ackOwed := false, pollOwed := false,
                              frmrOwed := false, sabmPending := false, discPending := false, uTimerRunning := false }
        ctr := { s.ctr with kaUnanswered := 0 }
        tim := { s.tim with lastTx := s.now } }) ∧
    (s.fsm = .disconnecting → exec .ua s = .next
      { s with
        fsm := .disconnected
        ring := { s.ring with slots := s.ring.slots.map (fun x =>
          if x.state = .queued ∨ x.state = .inFlight ∨ x.state = .awaitingAck then { x with state := .failed } else x) }
        flag := { s.flag with rejOwed := false, ackOwed := false, pollOwed := false, frmrOwed := false, sabmPending := false,
                              discPending := false, uTimerRunning := false }
        ctr := { s.ctr with kaUnanswered := 0, failGen := s.ctr.failGen + 1 }
        tim := { s.tim with connBase := s.now, connWait := s.eff.retryTimeout } })

/-- DISC (R409, R405, R410): a UA is owed, and every state but DISCONNECTED goes to DISCONNECTED with its pending slots failed. -/
def Obligations.DiscReceived : Prop :=
  ∀ s : State, Running s → s.rxPayload = [] →
    (s.fsm = .disconnected → exec .disc s = .next
      { s with flag := { s.flag with uaOwed := true }, ctr := { s.ctr with kaUnanswered := 0 } }) ∧
    (s.fsm ≠ .disconnected → exec .disc s = .next
      { s with
        fsm := .disconnected
        ring := { s.ring with slots := s.ring.slots.map (fun x =>
          if x.state = .queued ∨ x.state = .inFlight ∨ x.state = .awaitingAck then { x with state := .failed } else x) }
        flag := { s.flag with rejOwed := false, ackOwed := false, pollOwed := false, frmrOwed := false, uaOwed := true,
                              sabmPending := false, discPending := false, uTimerRunning := false }
        ctr := { s.ctr with kaUnanswered := 0, failGen := s.ctr.failGen + 1 }
        tim := { s.tim with connBase := s.now, connWait := s.eff.retryTimeout } })

/-- Duplicate suppression (R369): the same I frame received twice in CONNECTED is delivered once, and the second receipt
changes nothing but to schedule a REJ. -/
def Obligations.DuplicateDeliveredOnce : Prop :=
  ∀ (s : State) (ns : Seq) (pf : Bool) (nr : Seq), s.fsm = .connected → s.closing = false → ns = s.win.nextNr →
    ∃ t u, exec (.iFrame ns pf nr) s = .next t ∧ exec (.iFrame ns pf nr) t = .next u ∧
      t.rxp.events = s.rxp.events ++ [.frame 0xFF s.rxPayload] ∧
      u = { t with flag := { t.flag with rejSent := true, rejOwed := true } }

/-! ## Timers -/

/-- TimerPhase run twice at one NOW_MS has the effect of running it once (R449). -/
def Obligations.TimersIdempotent : Prop :=
  ∀ s : State, s.eff.retryTimeout ≠ 0 → timerPhase (timerPhase s) = timerPhase s

/-- Periodic connect (R443, R412, R402), and UNINIT, which polls no timer (R440). -/
def Obligations.PeriodicConnect : Prop :=
  ∀ s : State,
    (s.fsm = .uninit → timerPhase s = s) ∧
    (s.fsm = .disconnected → (s.now - s.tim.connBase).toNat < s.tim.connWait.toNat → timerPhase s = s) ∧
    (s.fsm = .disconnected → s.tim.connWait.toNat ≤ (s.now - s.tim.connBase).toNat →
      timerPhase s =
        { s with
          fsm := .connecting
          flag := { s.flag with sabmPending := true, discPending := false, uTimerRunning := false }
          ctr := { s.ctr with uRetriesLeft := s.eff.retries } })

/-- The U timer (R442, R405, R410), in CONNECTING and DISCONNECTING: a repeat while repeats are left, else DISCONNECTED with the
pending slots failed. -/
def Obligations.UnnumberedRetry : Prop :=
  ∀ s : State, s.fsm = .connecting ∨ s.fsm = .disconnecting →
    let due := s.flag.uTimerRunning = true ∧ s.eff.retryTimeout.toNat ≤ (s.now - s.tim.uSentAt).toNat
    (¬ due → timerPhase s = s) ∧
    (due → s.ctr.uRetriesLeft ≠ 0 →
      timerPhase s =
        { s with
          flag := { s.flag with
            uTimerRunning := false
            sabmPending := s.flag.sabmPending || decide (s.fsm = .connecting)
            discPending := s.flag.discPending || decide (s.fsm = .disconnecting) }
          ctr := { s.ctr with uRetriesLeft := s.ctr.uRetriesLeft - 1 } }) ∧
    (due → s.ctr.uRetriesLeft = 0 →
      timerPhase s =
        { s with
          fsm := .disconnected
          ring := { s.ring with slots := s.ring.slots.map (fun x =>
            if x.state = .queued ∨ x.state = .inFlight ∨ x.state = .awaitingAck then { x with state := .failed } else x) }
          flag := { s.flag with rejOwed := false, ackOwed := false, pollOwed := false, frmrOwed := false,
                                sabmPending := false, discPending := false, uTimerRunning := false }
          ctr := { s.ctr with failGen := s.ctr.failGen + 1 }
          tim := { s.tim with connBase := s.now, connWait := s.eff.retryTimeout } })

/-- Peer loss in CONNECTED (R441, R444, R405, R410): a slot whose last retry is over while the peer is not busy, or too many
unanswered keep-alives, ends the connection; nothing else does. -/
def Obligations.PeerLoss : Prop :=
  ∀ s : State, s.fsm = .connected →
    let exhausted := s.flag.peerBusy = false ∧ ∃ x ∈ s.ring.slots, x.state = .awaitingAck ∧
      s.eff.retryTimeout.toNat ≤ (s.now - x.sentAt).toNat ∧ x.retriesLeft = 0
    let lost := s.eff.kaTimeout ≠ 0 ∧ s.eff.kaTimeout.toNat ≤ (s.now - s.tim.lastTx).toNat ∧
      s.eff.retries.toNat < s.ctr.kaUnanswered.toNat
    (¬ exhausted → ¬ lost → timerPhase s = s) ∧
    (exhausted ∨ lost →
      timerPhase s =
        { s with
          fsm := .disconnected
          ring := { s.ring with slots := s.ring.slots.map (fun x =>
            if x.state = .queued ∨ x.state = .inFlight ∨ x.state = .awaitingAck then { x with state := .failed } else x) }
          flag := { s.flag with rejOwed := false, ackOwed := false, pollOwed := false, frmrOwed := false,
                                sabmPending := false, discPending := false, uTimerRunning := false }
          ctr := { s.ctr with failGen := s.ctr.failGen + 1 }
          tim := { s.tim with connBase := s.now, connWait := s.eff.retryTimeout } })

/-! ## Registers and sizes -/

/-- READ_REG (R483, R137–R139, R107): each register's number, layout and state element, its four bytes with bits 7:0 first; a
reserved number is INVALID_DATA (−4). No state changes. Slots at or beyond W read 0. Bit 4
of STATE is 1 in CONNECTED also while closing, as R139 says against the example of R472: the model's choice (log 24). -/
def Obligations.ReadRegister : Prop :=
  ∀ s : State,
    let f := fun (n lo : Nat) => BitVec.ofNat 32 (n * 2 ^ lo)
    let b := fun (x : Bool) (lo : Nat) => BitVec.ofNat 32 (x.toNat * 2 ^ lo)
    let fsmCode := fun (x : Fsm) => match x with
      | .uninit => 0 | .disconnected => 1 | .connecting => 2 | .connected => 3 | .disconnecting => 4
    let slotCode := fun (x : SlotState) => match x with
      | .free => 0 | .queued => 1 | .inFlight => 2 | .awaitingAck => 3 | .acked => 4 | .failed => 5
    let decCode := fun (x : DecState) => match x with | .hunt => 0 | .reading => 1 | .escape => 2
    let encCode := fun (x : EncPhase) => match x with
      | .idle => 0 | .openFlag => 1 | .body => 2 | .esc => 3 | .closeFlag => 4
    let slotReg := fun (i : Nat) => if i < s.w then
        f (slotCode (s.slot i).state) 0 ||| f (s.slot i).seq.toNat 4 ||| f (s.slot i).retriesLeft.toNat 8 |||
        f (s.slot i).len.toNat 16
      else 0
    let table : List (Byte × Word) :=
      [(0x00, f s.cfg.mtu.toNat 0), (0x01, f s.cfg.window.toNat 0), (0x02, f s.cfg.crc.toNat 0), (0x03, s.cfg.sendTimeout),
       (0x04, s.cfg.retryTimeout), (0x05, f s.cfg.retries.toNat 0), (0x06, s.cfg.kaTimeout), (0x07, s.cfg.ackDefer),
       (0x08, b s.cfg.acceptDisc 0)] ++
      [(0x10, f s.eff.mtu.toNat 0), (0x11, f s.eff.window.toNat 0), (0x12, f s.eff.crcCode.toNat 0 ||| f s.eff.crcLen.toNat 8),
       (0x13, s.eff.sendTimeout), (0x14, s.eff.retryTimeout), (0x15, f s.eff.retries.toNat 0), (0x16, s.eff.kaTimeout),
       (0x17, s.eff.ackDefer), (0x18, b s.eff.acceptDisc 0)] ++
      [(0x20, f (fsmCode s.fsm) 0 ||| b s.closing 3 ||| b (decide (s.fsm = .connected)) 4),
       (0x21, f s.win.nextNs.toNat 0 ||| f s.win.confirmNs.toNat 4 ||| f s.win.nextNr.toNat 8 ||| f s.win.lastNrSent.toNat 12 |||
         b s.flag.peerBusy 16 ||| b s.flag.rejSent 17 ||| b s.flag.rejOwed 18 ||| b s.flag.ackOwed 19 |||
         b s.flag.pollOwed 20 ||| b s.flag.frmrOwed 21 ||| b s.flag.uaOwed 22 ||| b s.flag.sabmPending 23 |||
         b s.flag.discPending 24 ||| b s.flag.uTimerRunning 25),
       (0x22, f s.ring.head.toNat 0 ||| f s.ring.count.toNat 4 ||| f s.ctr.uRetriesLeft.toNat 8 |||
         f s.ctr.kaUnanswered.toNat 16),
       (0x23, f (decCode s.dec.state) 0 ||| f (encCode s.enc.phase) 2 ||| b s.enc.lastFlag 5 ||| f (s.dec.len.toNat) 16)] ++
      [(0x24, s.ctr.crcErrCnt), (0x25, f (s.enc.txfLen.toNat) 0 ||| f (s.enc.txfPos.toNat) 16), (0x26, s.tim.lastTx),
       (0x27, s.tim.ackSince), (0x28, s.tim.uSentAt), (0x29, s.tim.connBase), (0x2A, s.tim.connWait), (0x2B, s.ctr.failGen),
       (0x2C, f s.enc.txfSlot.toNat 0 ||| b s.enc.txfSlotValid 3)] ++
      (List.range 7).map (fun i => (BitVec.ofNat 8 (0x30 + i), slotReg i)) ++
      (List.range 7).map (fun i => (BitVec.ofNat 8 (0x38 + i), if i < s.w then (s.slot i).sentAt else 0))
    (∀ n v, (n, v) ∈ table → ∃ t, exec (.readReg n) s = .next t ∧
      AnsweredOnly s t 0 [v.extractLsb' 0 8, v.extractLsb' 8 8, v.extractLsb' 16 8, v.extractLsb' 24 8]) ∧
    (∀ n, (∀ v, (n, v) ∉ table) → ∃ t, exec (.readReg n) s = .next t ∧ AnsweredOnly s t (-4) [])

/-- WRITE_REG (R484, R138): a CFG register takes ARG masked to its layout and reads back so; every other register, and every other
CFG register, is as before; a number that is no CFG register is INVALID_DATA (−4) and changes nothing. -/
def Obligations.WriteRegister : Prop :=
  ∀ (s : State) (n : Byte) (v : Word),
    let c := s.cfg
    let table : List (Byte × Cfg × Word) :=
      [(0x00, { c with mtu := v.extractLsb' 0 16 }, v &&& 0xFFFF), (0x01, { c with window := v.extractLsb' 0 3 }, v &&& 7),
       (0x02, { c with crc := v.extractLsb' 0 8 }, v &&& 0xFF), (0x03, { c with sendTimeout := v }, v),
       (0x04, { c with retryTimeout := v }, v), (0x05, { c with retries := v.extractLsb' 0 8 }, v &&& 0xFF),
       (0x06, { c with kaTimeout := v }, v), (0x07, { c with ackDefer := v }, v),
       (0x08, { c with acceptDisc := v.getLsbD 0 }, v &&& 1)]
    (∀ c' masked, (n, c', masked) ∈ table → ∃ t, exec (.writeReg n v) s = .next t ∧ AnsweredOnly { s with cfg := c' } t 0 [] ∧
      ∃ t', exec (.readReg n) t = .next t' ∧ AnsweredOnly t t' 0
        [masked.extractLsb' 0 8, masked.extractLsb' 8 8, masked.extractLsb' 16 8, masked.extractLsb' 24 8]) ∧
    ((∀ c' masked, (n, c', masked) ∉ table) → ∃ t, exec (.writeReg n v) s = .next t ∧ AnsweredOnly s t (-4) [])

/-- BUFFER_SIZE (R482, R485): the size, INVALID_DATA (−4) for illegal arguments, DATA_TOO_LARGE (−3) above 2^31 − 1, in every
state. -/
def Obligations.BufferSizeCommand : Prop :=
  ∀ (s : State) (mtu : BitVec 16) (window crc : Byte),
    let lens : List (Byte × Nat) := [(0x00, 2), (0x08, 1), (0x10, 2), (0x20, 4), (0xFF, 0)]
    let size := fun len : Nat =>
      window.toNat * (mtu.toNat + 2 + len + s.params.slotOverhead) + (mtu.toNat + 2 + len) + s.params.fixedOverhead
    (mtu.toNat < 1 ∨ window.toNat < 1 ∨ 7 < window.toNat ∨ (∀ len, (crc, len) ∉ lens) →
      ∃ t, exec (.bufferSize mtu window crc) s = .next t ∧ AnsweredOnly s t (-4) []) ∧
    (∀ len, (crc, len) ∈ lens → 1 ≤ mtu.toNat → 1 ≤ window.toNat → window.toNat ≤ 7 →
      ∃ t, exec (.bufferSize mtu window crc) s = .next t ∧
        AnsweredOnly s t (if size len ≤ 2 ^ 31 - 1 then BitVec.ofNat 32 (size len) else -3) [])

/-! ## Host procedures -/

/-- RUN_TX (R490): it starts; it issues TX_GET 4; no bytes end it with the total; else it writes them, and an answer of 0 or
less ends it. Four points are the model's choice: `write_fn` is a list of answers (log 12); they and the total have 32 bits
(log 28); the procedure may run at any port, where R490 has it use TXP (log 14); no request waiting at the port comes between
its commands (log 26). -/
def Obligations.RunTxLoop : Prop :=
  (∀ (s : State) (ws : List Word), ∃ t, exec (.runTx ws) s = .next t ∧ SameBlock s t ∧ SameInputs s t ∧
    SameOtherPorts s.port s t ∧
    ∀ q, s.port? s.port = some q → t.port? s.port = some { q with proc := some (.runTxGet 0 ws), reply := none }) ∧
  (∀ s p now rest q, RunsNext p now rest q s → q.cmd = .idle →
    let s1 : State := { s with now := now, port := p, ticks := rest }
    let goes := fun (pr : Proc) => State.modPort s1 p (fun q => { q with proc := some pr, reply := none })
    let ends := fun (total : Nat) => State.modPort s1 p (fun q =>
      { q with proc := none, reply := none, responses := q.responses ++ [⟨BitVec.ofNat 32 total, []⟩] })
    (∀ total ws, q.proc = some (.runTxGet total ws) → step s = exec (.txGet 4) (goes (.runTxWait total ws))) ∧
    (∀ total ws r, q.proc = some (.runTxWait total ws) → q.reply = some r →
      (r.res.toInt ≤ 0 → step s = .next (ends total)) ∧
      (0 < r.res.toInt → step s = .next (goes (.runTxWrite total ws r.dout)))) ∧
    (∀ total w ws bytes, q.proc = some (.runTxWrite total (w :: ws) bytes) →
      (w.toInt ≤ 0 → step s = .next (ends total)) ∧
      (0 < w.toInt → bytes.drop w.toNat ≠ [] → step s = .next (goes (.runTxWrite (total + w.toNat) ws (bytes.drop w.toNat)))) ∧
      (0 < w.toInt → bytes.drop w.toNat = [] → step s = .next (goes (.runTxGet (total + w.toNat) ws)))))

/-- RUN_RX (R491): it starts; an error or no bytes end it with the total; else the bytes go to RX_PUT and are counted. Four
points are the model's choice: `read_fn` is a list of answers, an error an empty one (log 12); the total has 32 bits (log 28);
the procedure may run at any port, where R491 has it use RXP (log 14); no request waiting at the port comes between its
commands (log 26). -/
def Obligations.RunRxLoop : Prop :=
  (∀ (s : State) (rs : List (List Byte)), ∃ t, exec (.runRx rs) s = .next t ∧ SameBlock s t ∧ SameInputs s t ∧
    SameOtherPorts s.port s t ∧
    ∀ q, s.port? s.port = some q → t.port? s.port = some { q with proc := some (.runRxRead 0 rs), reply := none }) ∧
  (∀ s p now rest q, RunsNext p now rest q s → q.cmd = .idle →
    let s1 : State := { s with now := now, port := p, ticks := rest }
    let goes := fun (pr : Proc) => State.modPort s1 p (fun q => { q with proc := some pr, reply := none })
    (∀ total rs, q.proc = some (.runRxRead total ([] :: rs)) →
      step s = .next (State.modPort s1 p (fun q =>
        { q with proc := none, reply := none, responses := q.responses ++ [⟨BitVec.ofNat 32 total, []⟩] }))) ∧
    (∀ total bytes rs, q.proc = some (.runRxRead total (bytes :: rs)) → bytes ≠ [] → bytes.length ≤ 4 →
      step s = exec (.rxPut bytes) (goes (.runRxWait total rs bytes.length))) ∧
    (∀ total rs n r, q.proc = some (.runRxWait total rs n) → q.reply = some r →
      step s = .next (goes (.runRxRead (total + n) rs))))

/-- SEND (R492): it starts, asks GET_MTU, and sends the buffer in fragments of at most the MTU; a failure ends it with the
bytes sent, or with its code where nothing was sent and it is no TIMEOUT. Five points are the model's choice: the procedure
and the response it waits for stand in the port (log 12); the count has 32 bits (log 28); it may run at any port, where R492
has it use an APP port (log 14); no request waiting at the port comes between its commands (log 26); what it does where
GET_MTU answers an error, which is not stated here (log 13). -/
def Obligations.SendLoop : Prop :=
  (∀ (s : State) (buf : List Byte), ∃ t, exec (.send buf) s = .next t ∧ SameBlock s t ∧ SameInputs s t ∧
    SameOtherPorts s.port s t ∧
    ∀ q, s.port? s.port = some q → t.port? s.port = some { q with proc := some (.sendMtu buf), reply := none }) ∧
  (∀ s p now rest q, RunsNext p now rest q s → q.cmd = .idle →
    let s1 : State := { s with now := now, port := p, ticks := rest }
    let goes := fun (pr : Proc) => State.modPort s1 p (fun q => { q with proc := some pr, reply := none })
    let ends := fun (res : Word) => State.modPort s1 p (fun q =>
      { q with proc := none, reply := none, responses := q.responses ++ [⟨res, []⟩] })
    (∀ buf, q.proc = some (.sendMtu buf) → step s = exec .getMtu (goes (.sendMtuWait buf))) ∧
    (∀ buf r, q.proc = some (.sendMtuWait buf) → q.reply = some r → step s = .next (goes (.sendLoop buf r.res 0))) ∧
    (∀ buf m sent, q.proc = some (.sendLoop buf m sent) →
      (buf.length ≤ sent → step s = .next (ends (BitVec.ofNat 32 sent))) ∧
      (sent < buf.length → 0 ≤ m.toInt →
        let k := min m.toNat (buf.length - sent)
        step s = exec (.sendPacket ((buf.drop sent).take k)) (goes (.sendWait buf m sent k)))) ∧
    (∀ buf m sent k r, q.proc = some (.sendWait buf m sent k) → q.reply = some r →
      (r.res = 0 → step s = .next (goes (.sendLoop buf m (sent + k)))) ∧
      (r.res ≠ 0 → sent = 0 → r.res ≠ -2 → step s = .next (ends r.res)) ∧
      (r.res ≠ 0 → sent ≠ 0 ∨ r.res = -2 → step s = .next (ends (BitVec.ofNat 32 sent)))))

/-! ## Invariants and rules of the whole machine -/

/-- The invariants hold right after reset. -/
def Obligations.InvariantsAtReset : Prop :=
  RamCanonical State.reset ∧ RamWritten State.reset ∧ WindowInv State.reset ∧ KeepAliveInv State.reset ∧
  RxBoundInv State.reset ∧ EffInv State.reset ∧ SessionInv State.reset ∧ RingInv State.reset

/-- Every step keeps the storage in canonical form, and keeps what may be read written (R49: unspecified storage is never
read before it is written). -/
def Obligations.StorageKept : Prop :=
  ∀ s t, step s = .next t → (RamCanonical s → RamCanonical t) ∧ (RamWritten s → RamWritten t)

/-- Every step keeps the window invariant: mod8(next_ns − confirm_ns) ≤ W (R304). -/
def Obligations.WindowKept : Prop :=
  ∀ s t, WindowInv s → step s = .next t → WindowInv t

/-- Every step keeps `ka_unanswered` ≤ `retries` + 1 (R36) and the frame in progress inside RxBuf (R102). -/
def Obligations.CountersKept : Prop :=
  ∀ s t, step s = .next t → (KeepAliveInv s → KeepAliveInv t) ∧ (RxBoundInv s → RxBoundInv t)

/-- Every step keeps what INIT's checks and latches establish (R40, R200, R445, R446, R471), and that nothing of a session is left
in UNINIT (R40, R473, R571). -/
def Obligations.SessionKept : Prop :=
  ∀ s t, step s = .next t → (EffInv s → EffInv t) ∧ (SessionInv s → SessionInv t)

/-- Every step keeps the ring order invariant (R303): finished, then sent, then QUEUED slots, the sent ones numbered from
`confirm_ns` to `next_ns` − 1 in CONNECTED, every slot outside the ring FREE (R41, R300). -/
def Obligations.RingKept : Prop :=
  ∀ s t, RingInv s → step s = .next t → RingInv t

/-- The session ends only by CLOSE phase 2 or by hardware reset (R33, R401). -/
def Obligations.OnlyCloseEndsSession : Prop :=
  ∀ s t, step s = .next t → s.fsm ≠ .uninit → t.fsm = .uninit →
    (∃ now rest, s.ticks = ⟨now, .reset⟩ :: rest) ∨ (∃ p now rest q, RunsNext p now rest q s ∧ q.cmd = .close)

/-- The CFG registers change only by WRITE_REG or by hardware reset, and the effective ones only by INIT, by SET_KA_TIMEOUT, by
CLOSE phase 2 or by hardware reset (R39, R40, R115, R583). -/
def Obligations.OnlyWriteRegWritesCfg : Prop :=
  ∀ s t, step s = .next t →
    (t.cfg ≠ s.cfg →
      (∃ now rest, s.ticks = ⟨now, .reset⟩ :: rest) ∨
      (∃ p now rest q r l n v, RunsNext p now rest q s ∧ q.cmd = .idle ∧ q.queue = .request r :: l ∧
        decodeRequest r = .ok (.writeReg n v))) ∧
    (t.eff ≠ s.eff →
      (∃ now rest, s.ticks = ⟨now, .reset⟩ :: rest) ∨
      (∃ p now rest q, RunsNext p now rest q s ∧ q.cmd = .close) ∨
      (∃ p now rest q r l ms, RunsNext p now rest q s ∧ q.cmd = .idle ∧ q.queue = .request r :: l ∧
        (decodeRequest r = .ok .init ∨ decodeRequest r = .ok (.setKaTimeout ms))))

/-- A slot becomes ACKED only when RX_PUT gives the decoder a flag in CONNECTED: by a received frame, through a valid N(R) (R119,
R302, R321). `PortsLegal` is part of the invariant of `SessionKept`: RX_PUT only at RXP. -/
def Obligations.OnlyFramesAcknowledge : Prop :=
  ∀ s t i, PortsLegal s → step s = .next t → (s.slot i).state ≠ .acked → (t.slot i).state = .acked →
    s.fsm = .connected ∧ s.win.confirmNs ≠ s.win.nextNs ∧
    ∃ now rest q more, RunsNext .rxp now rest q s ∧ q.cmd = .rxPut (0x7E :: more)
end

