-- ==== Sys2Proof/Laws/State.lean ====
section
/-! SUPPORT. One lemma for each field under each update of a field group and each port operation, so that no later proof
unfolds a record update. -/

namespace Sys2Proof.Machine

/-! ## modWin -/

section

variable (s : State) (f : Window → Window)

@[simp] theorem State.modWin_params : (s.modWin f).params = s.params := rfl
@[simp] theorem State.modWin_cfg : (s.modWin f).cfg = s.cfg := rfl
@[simp] theorem State.modWin_eff : (s.modWin f).eff = s.eff := rfl
@[simp] theorem State.modWin_fsm : (s.modWin f).fsm = s.fsm := rfl
@[simp] theorem State.modWin_closing : (s.modWin f).closing = s.closing := rfl
@[simp] theorem State.modWin_win : (s.modWin f).win = f s.win := rfl
@[simp] theorem State.modWin_flag : (s.modWin f).flag = s.flag := rfl
@[simp] theorem State.modWin_ctr : (s.modWin f).ctr = s.ctr := rfl
@[simp] theorem State.modWin_tim : (s.modWin f).tim = s.tim := rfl
@[simp] theorem State.modWin_ring : (s.modWin f).ring = s.ring := rfl
@[simp] theorem State.modWin_dec : (s.modWin f).dec = s.dec := rfl
@[simp] theorem State.modWin_enc : (s.modWin f).enc = s.enc := rfl
@[simp] theorem State.modWin_txp : (s.modWin f).txp = s.txp := rfl
@[simp] theorem State.modWin_rxp : (s.modWin f).rxp = s.rxp := rfl
@[simp] theorem State.modWin_apps : (s.modWin f).apps = s.apps := rfl
@[simp] theorem State.modWin_now : (s.modWin f).now = s.now := rfl
@[simp] theorem State.modWin_port : (s.modWin f).port = s.port := rfl
@[simp] theorem State.modWin_ticks : (s.modWin f).ticks = s.ticks := rfl
@[simp] theorem State.modWin_port? (p : PortId) : (s.modWin f).port? p = s.port? p := by cases p <;> rfl

end

/-! ## modFlag -/

section

variable (s : State) (f : Flags → Flags)

@[simp] theorem State.modFlag_params : (s.modFlag f).params = s.params := rfl
@[simp] theorem State.modFlag_cfg : (s.modFlag f).cfg = s.cfg := rfl
@[simp] theorem State.modFlag_eff : (s.modFlag f).eff = s.eff := rfl
@[simp] theorem State.modFlag_fsm : (s.modFlag f).fsm = s.fsm := rfl
@[simp] theorem State.modFlag_closing : (s.modFlag f).closing = s.closing := rfl
@[simp] theorem State.modFlag_win : (s.modFlag f).win = s.win := rfl
@[simp] theorem State.modFlag_flag : (s.modFlag f).flag = f s.flag := rfl
@[simp] theorem State.modFlag_ctr : (s.modFlag f).ctr = s.ctr := rfl
@[simp] theorem State.modFlag_tim : (s.modFlag f).tim = s.tim := rfl
@[simp] theorem State.modFlag_ring : (s.modFlag f).ring = s.ring := rfl
@[simp] theorem State.modFlag_dec : (s.modFlag f).dec = s.dec := rfl
@[simp] theorem State.modFlag_enc : (s.modFlag f).enc = s.enc := rfl
@[simp] theorem State.modFlag_txp : (s.modFlag f).txp = s.txp := rfl
@[simp] theorem State.modFlag_rxp : (s.modFlag f).rxp = s.rxp := rfl
@[simp] theorem State.modFlag_apps : (s.modFlag f).apps = s.apps := rfl
@[simp] theorem State.modFlag_now : (s.modFlag f).now = s.now := rfl
@[simp] theorem State.modFlag_port : (s.modFlag f).port = s.port := rfl
@[simp] theorem State.modFlag_ticks : (s.modFlag f).ticks = s.ticks := rfl
@[simp] theorem State.modFlag_port? (p : PortId) : (s.modFlag f).port? p = s.port? p := by cases p <;> rfl

end

/-! ## modCtr -/

section

variable (s : State) (f : Counters → Counters)

@[simp] theorem State.modCtr_params : (s.modCtr f).params = s.params := rfl
@[simp] theorem State.modCtr_cfg : (s.modCtr f).cfg = s.cfg := rfl
@[simp] theorem State.modCtr_eff : (s.modCtr f).eff = s.eff := rfl
@[simp] theorem State.modCtr_fsm : (s.modCtr f).fsm = s.fsm := rfl
@[simp] theorem State.modCtr_closing : (s.modCtr f).closing = s.closing := rfl
@[simp] theorem State.modCtr_win : (s.modCtr f).win = s.win := rfl
@[simp] theorem State.modCtr_flag : (s.modCtr f).flag = s.flag := rfl
@[simp] theorem State.modCtr_ctr : (s.modCtr f).ctr = f s.ctr := rfl
@[simp] theorem State.modCtr_tim : (s.modCtr f).tim = s.tim := rfl
@[simp] theorem State.modCtr_ring : (s.modCtr f).ring = s.ring := rfl
@[simp] theorem State.modCtr_dec : (s.modCtr f).dec = s.dec := rfl
@[simp] theorem State.modCtr_enc : (s.modCtr f).enc = s.enc := rfl
@[simp] theorem State.modCtr_txp : (s.modCtr f).txp = s.txp := rfl
@[simp] theorem State.modCtr_rxp : (s.modCtr f).rxp = s.rxp := rfl
@[simp] theorem State.modCtr_apps : (s.modCtr f).apps = s.apps := rfl
@[simp] theorem State.modCtr_now : (s.modCtr f).now = s.now := rfl
@[simp] theorem State.modCtr_port : (s.modCtr f).port = s.port := rfl
@[simp] theorem State.modCtr_ticks : (s.modCtr f).ticks = s.ticks := rfl
@[simp] theorem State.modCtr_port? (p : PortId) : (s.modCtr f).port? p = s.port? p := by cases p <;> rfl

end

/-! ## modTim -/

section

variable (s : State) (f : Times → Times)

@[simp] theorem State.modTim_params : (s.modTim f).params = s.params := rfl
@[simp] theorem State.modTim_cfg : (s.modTim f).cfg = s.cfg := rfl
@[simp] theorem State.modTim_eff : (s.modTim f).eff = s.eff := rfl
@[simp] theorem State.modTim_fsm : (s.modTim f).fsm = s.fsm := rfl
@[simp] theorem State.modTim_closing : (s.modTim f).closing = s.closing := rfl
@[simp] theorem State.modTim_win : (s.modTim f).win = s.win := rfl
@[simp] theorem State.modTim_flag : (s.modTim f).flag = s.flag := rfl
@[simp] theorem State.modTim_ctr : (s.modTim f).ctr = s.ctr := rfl
@[simp] theorem State.modTim_tim : (s.modTim f).tim = f s.tim := rfl
@[simp] theorem State.modTim_ring : (s.modTim f).ring = s.ring := rfl
@[simp] theorem State.modTim_dec : (s.modTim f).dec = s.dec := rfl
@[simp] theorem State.modTim_enc : (s.modTim f).enc = s.enc := rfl
@[simp] theorem State.modTim_txp : (s.modTim f).txp = s.txp := rfl
@[simp] theorem State.modTim_rxp : (s.modTim f).rxp = s.rxp := rfl
@[simp] theorem State.modTim_apps : (s.modTim f).apps = s.apps := rfl
@[simp] theorem State.modTim_now : (s.modTim f).now = s.now := rfl
@[simp] theorem State.modTim_port : (s.modTim f).port = s.port := rfl
@[simp] theorem State.modTim_ticks : (s.modTim f).ticks = s.ticks := rfl
@[simp] theorem State.modTim_port? (p : PortId) : (s.modTim f).port? p = s.port? p := by cases p <;> rfl

end

/-! ## modRing -/

section

variable (s : State) (f : Ring → Ring)

@[simp] theorem State.modRing_params : (s.modRing f).params = s.params := rfl
@[simp] theorem State.modRing_cfg : (s.modRing f).cfg = s.cfg := rfl
@[simp] theorem State.modRing_eff : (s.modRing f).eff = s.eff := rfl
@[simp] theorem State.modRing_fsm : (s.modRing f).fsm = s.fsm := rfl
@[simp] theorem State.modRing_closing : (s.modRing f).closing = s.closing := rfl
@[simp] theorem State.modRing_win : (s.modRing f).win = s.win := rfl
@[simp] theorem State.modRing_flag : (s.modRing f).flag = s.flag := rfl
@[simp] theorem State.modRing_ctr : (s.modRing f).ctr = s.ctr := rfl
@[simp] theorem State.modRing_tim : (s.modRing f).tim = s.tim := rfl
@[simp] theorem State.modRing_ring : (s.modRing f).ring = f s.ring := rfl
@[simp] theorem State.modRing_dec : (s.modRing f).dec = s.dec := rfl
@[simp] theorem State.modRing_enc : (s.modRing f).enc = s.enc := rfl
@[simp] theorem State.modRing_txp : (s.modRing f).txp = s.txp := rfl
@[simp] theorem State.modRing_rxp : (s.modRing f).rxp = s.rxp := rfl
@[simp] theorem State.modRing_apps : (s.modRing f).apps = s.apps := rfl
@[simp] theorem State.modRing_now : (s.modRing f).now = s.now := rfl
@[simp] theorem State.modRing_port : (s.modRing f).port = s.port := rfl
@[simp] theorem State.modRing_ticks : (s.modRing f).ticks = s.ticks := rfl
@[simp] theorem State.modRing_port? (p : PortId) : (s.modRing f).port? p = s.port? p := by cases p <;> rfl

end

/-! ## modDec -/

section

variable (s : State) (f : Decoder → Decoder)

@[simp] theorem State.modDec_params : (s.modDec f).params = s.params := rfl
@[simp] theorem State.modDec_cfg : (s.modDec f).cfg = s.cfg := rfl
@[simp] theorem State.modDec_eff : (s.modDec f).eff = s.eff := rfl
@[simp] theorem State.modDec_fsm : (s.modDec f).fsm = s.fsm := rfl
@[simp] theorem State.modDec_closing : (s.modDec f).closing = s.closing := rfl
@[simp] theorem State.modDec_win : (s.modDec f).win = s.win := rfl
@[simp] theorem State.modDec_flag : (s.modDec f).flag = s.flag := rfl
@[simp] theorem State.modDec_ctr : (s.modDec f).ctr = s.ctr := rfl
@[simp] theorem State.modDec_tim : (s.modDec f).tim = s.tim := rfl
@[simp] theorem State.modDec_ring : (s.modDec f).ring = s.ring := rfl
@[simp] theorem State.modDec_dec : (s.modDec f).dec = f s.dec := rfl
@[simp] theorem State.modDec_enc : (s.modDec f).enc = s.enc := rfl
@[simp] theorem State.modDec_txp : (s.modDec f).txp = s.txp := rfl
@[simp] theorem State.modDec_rxp : (s.modDec f).rxp = s.rxp := rfl
@[simp] theorem State.modDec_apps : (s.modDec f).apps = s.apps := rfl
@[simp] theorem State.modDec_now : (s.modDec f).now = s.now := rfl
@[simp] theorem State.modDec_port : (s.modDec f).port = s.port := rfl
@[simp] theorem State.modDec_ticks : (s.modDec f).ticks = s.ticks := rfl
@[simp] theorem State.modDec_port? (p : PortId) : (s.modDec f).port? p = s.port? p := by cases p <;> rfl

end

/-! ## modEnc -/

section

variable (s : State) (f : Encoder → Encoder)

@[simp] theorem State.modEnc_params : (s.modEnc f).params = s.params := rfl
@[simp] theorem State.modEnc_cfg : (s.modEnc f).cfg = s.cfg := rfl
@[simp] theorem State.modEnc_eff : (s.modEnc f).eff = s.eff := rfl
@[simp] theorem State.modEnc_fsm : (s.modEnc f).fsm = s.fsm := rfl
@[simp] theorem State.modEnc_closing : (s.modEnc f).closing = s.closing := rfl
@[simp] theorem State.modEnc_win : (s.modEnc f).win = s.win := rfl
@[simp] theorem State.modEnc_flag : (s.modEnc f).flag = s.flag := rfl
@[simp] theorem State.modEnc_ctr : (s.modEnc f).ctr = s.ctr := rfl
@[simp] theorem State.modEnc_tim : (s.modEnc f).tim = s.tim := rfl
@[simp] theorem State.modEnc_ring : (s.modEnc f).ring = s.ring := rfl
@[simp] theorem State.modEnc_dec : (s.modEnc f).dec = s.dec := rfl
@[simp] theorem State.modEnc_enc : (s.modEnc f).enc = f s.enc := rfl
@[simp] theorem State.modEnc_txp : (s.modEnc f).txp = s.txp := rfl
@[simp] theorem State.modEnc_rxp : (s.modEnc f).rxp = s.rxp := rfl
@[simp] theorem State.modEnc_apps : (s.modEnc f).apps = s.apps := rfl
@[simp] theorem State.modEnc_now : (s.modEnc f).now = s.now := rfl
@[simp] theorem State.modEnc_port : (s.modEnc f).port = s.port := rfl
@[simp] theorem State.modEnc_ticks : (s.modEnc f).ticks = s.ticks := rfl
@[simp] theorem State.modEnc_port? (p : PortId) : (s.modEnc f).port? p = s.port? p := by cases p <;> rfl

end

/-! ## setFsm -/

section

variable (s : State) (x : Fsm)

@[simp] theorem State.setFsm_params : (s.setFsm x).params = s.params := rfl
@[simp] theorem State.setFsm_cfg : (s.setFsm x).cfg = s.cfg := rfl
@[simp] theorem State.setFsm_eff : (s.setFsm x).eff = s.eff := rfl
@[simp] theorem State.setFsm_fsm : (s.setFsm x).fsm = x := rfl
@[simp] theorem State.setFsm_closing : (s.setFsm x).closing = s.closing := rfl
@[simp] theorem State.setFsm_win : (s.setFsm x).win = s.win := rfl
@[simp] theorem State.setFsm_flag : (s.setFsm x).flag = s.flag := rfl
@[simp] theorem State.setFsm_ctr : (s.setFsm x).ctr = s.ctr := rfl
@[simp] theorem State.setFsm_tim : (s.setFsm x).tim = s.tim := rfl
@[simp] theorem State.setFsm_ring : (s.setFsm x).ring = s.ring := rfl
@[simp] theorem State.setFsm_dec : (s.setFsm x).dec = s.dec := rfl
@[simp] theorem State.setFsm_enc : (s.setFsm x).enc = s.enc := rfl
@[simp] theorem State.setFsm_txp : (s.setFsm x).txp = s.txp := rfl
@[simp] theorem State.setFsm_rxp : (s.setFsm x).rxp = s.rxp := rfl
@[simp] theorem State.setFsm_apps : (s.setFsm x).apps = s.apps := rfl
@[simp] theorem State.setFsm_now : (s.setFsm x).now = s.now := rfl
@[simp] theorem State.setFsm_port : (s.setFsm x).port = s.port := rfl
@[simp] theorem State.setFsm_ticks : (s.setFsm x).ticks = s.ticks := rfl
@[simp] theorem State.setFsm_port? (p : PortId) : (s.setFsm x).port? p = s.port? p := by cases p <;> rfl

end

/-! ## modPort and what is built on it -/

section

variable (s : State) (p : PortId) (f : Port → Port)

@[simp] theorem State.modPort_params : (s.modPort p f).params = s.params := by cases p <;> rfl
@[simp] theorem State.modPort_cfg : (s.modPort p f).cfg = s.cfg := by cases p <;> rfl
@[simp] theorem State.modPort_eff : (s.modPort p f).eff = s.eff := by cases p <;> rfl
@[simp] theorem State.modPort_fsm : (s.modPort p f).fsm = s.fsm := by cases p <;> rfl
@[simp] theorem State.modPort_closing : (s.modPort p f).closing = s.closing := by cases p <;> rfl
@[simp] theorem State.modPort_win : (s.modPort p f).win = s.win := by cases p <;> rfl
@[simp] theorem State.modPort_flag : (s.modPort p f).flag = s.flag := by cases p <;> rfl
@[simp] theorem State.modPort_ctr : (s.modPort p f).ctr = s.ctr := by cases p <;> rfl
@[simp] theorem State.modPort_tim : (s.modPort p f).tim = s.tim := by cases p <;> rfl
@[simp] theorem State.modPort_ring : (s.modPort p f).ring = s.ring := by cases p <;> rfl
@[simp] theorem State.modPort_dec : (s.modPort p f).dec = s.dec := by cases p <;> rfl
@[simp] theorem State.modPort_enc : (s.modPort p f).enc = s.enc := by cases p <;> rfl
@[simp] theorem State.modPort_now : (s.modPort p f).now = s.now := by cases p <;> rfl
@[simp] theorem State.modPort_port : (s.modPort p f).port = s.port := by cases p <;> rfl
@[simp] theorem State.modPort_ticks : (s.modPort p f).ticks = s.ticks := by cases p <;> rfl

end

/-! ## emit -/

section

variable (s : State) (p : PortId) (ev : Event)

@[simp] theorem emit_params : (emit p ev s).params = s.params := State.modPort_params _ _ _
@[simp] theorem emit_cfg : (emit p ev s).cfg = s.cfg := State.modPort_cfg _ _ _
@[simp] theorem emit_eff : (emit p ev s).eff = s.eff := State.modPort_eff _ _ _
@[simp] theorem emit_fsm : (emit p ev s).fsm = s.fsm := State.modPort_fsm _ _ _
@[simp] theorem emit_closing : (emit p ev s).closing = s.closing := State.modPort_closing _ _ _
@[simp] theorem emit_win : (emit p ev s).win = s.win := State.modPort_win _ _ _
@[simp] theorem emit_flag : (emit p ev s).flag = s.flag := State.modPort_flag _ _ _
@[simp] theorem emit_ctr : (emit p ev s).ctr = s.ctr := State.modPort_ctr _ _ _
@[simp] theorem emit_tim : (emit p ev s).tim = s.tim := State.modPort_tim _ _ _
@[simp] theorem emit_ring : (emit p ev s).ring = s.ring := State.modPort_ring _ _ _
@[simp] theorem emit_dec : (emit p ev s).dec = s.dec := State.modPort_dec _ _ _
@[simp] theorem emit_enc : (emit p ev s).enc = s.enc := State.modPort_enc _ _ _
@[simp] theorem emit_now : (emit p ev s).now = s.now := State.modPort_now _ _ _
@[simp] theorem emit_port : (emit p ev s).port = s.port := State.modPort_port _ _ _
@[simp] theorem emit_ticks : (emit p ev s).ticks = s.ticks := State.modPort_ticks _ _ _

end

/-! ## setCmd -/

section

variable (s : State) (c : Cmd)

@[simp] theorem setCmd_params : (setCmd c s).params = s.params := State.modPort_params _ _ _
@[simp] theorem setCmd_cfg : (setCmd c s).cfg = s.cfg := State.modPort_cfg _ _ _
@[simp] theorem setCmd_eff : (setCmd c s).eff = s.eff := State.modPort_eff _ _ _
@[simp] theorem setCmd_fsm : (setCmd c s).fsm = s.fsm := State.modPort_fsm _ _ _
@[simp] theorem setCmd_closing : (setCmd c s).closing = s.closing := State.modPort_closing _ _ _
@[simp] theorem setCmd_win : (setCmd c s).win = s.win := State.modPort_win _ _ _
@[simp] theorem setCmd_flag : (setCmd c s).flag = s.flag := State.modPort_flag _ _ _
@[simp] theorem setCmd_ctr : (setCmd c s).ctr = s.ctr := State.modPort_ctr _ _ _
@[simp] theorem setCmd_tim : (setCmd c s).tim = s.tim := State.modPort_tim _ _ _
@[simp] theorem setCmd_ring : (setCmd c s).ring = s.ring := State.modPort_ring _ _ _
@[simp] theorem setCmd_dec : (setCmd c s).dec = s.dec := State.modPort_dec _ _ _
@[simp] theorem setCmd_enc : (setCmd c s).enc = s.enc := State.modPort_enc _ _ _
@[simp] theorem setCmd_now : (setCmd c s).now = s.now := State.modPort_now _ _ _
@[simp] theorem setCmd_port : (setCmd c s).port = s.port := State.modPort_port _ _ _
@[simp] theorem setCmd_ticks : (setCmd c s).ticks = s.ticks := State.modPort_ticks _ _ _

end

/-! ## respond -/

section

variable (s : State) (res : Word) (dout : List Byte)

@[simp] theorem respond_params : (respond res dout s).params = s.params := State.modPort_params _ _ _
@[simp] theorem respond_cfg : (respond res dout s).cfg = s.cfg := State.modPort_cfg _ _ _
@[simp] theorem respond_eff : (respond res dout s).eff = s.eff := State.modPort_eff _ _ _
@[simp] theorem respond_fsm : (respond res dout s).fsm = s.fsm := State.modPort_fsm _ _ _
@[simp] theorem respond_closing : (respond res dout s).closing = s.closing := State.modPort_closing _ _ _
@[simp] theorem respond_win : (respond res dout s).win = s.win := State.modPort_win _ _ _
@[simp] theorem respond_flag : (respond res dout s).flag = s.flag := State.modPort_flag _ _ _
@[simp] theorem respond_ctr : (respond res dout s).ctr = s.ctr := State.modPort_ctr _ _ _
@[simp] theorem respond_tim : (respond res dout s).tim = s.tim := State.modPort_tim _ _ _
@[simp] theorem respond_ring : (respond res dout s).ring = s.ring := State.modPort_ring _ _ _
@[simp] theorem respond_dec : (respond res dout s).dec = s.dec := State.modPort_dec _ _ _
@[simp] theorem respond_enc : (respond res dout s).enc = s.enc := State.modPort_enc _ _ _
@[simp] theorem respond_now : (respond res dout s).now = s.now := State.modPort_now _ _ _
@[simp] theorem respond_port : (respond res dout s).port = s.port := State.modPort_port _ _ _
@[simp] theorem respond_ticks : (respond res dout s).ticks = s.ticks := State.modPort_ticks _ _ _

end

/-! ## refuse -/

section

variable (s : State) (code : Word)

@[simp] theorem refuse_params : (refuse code s).params = s.params := State.modPort_params _ _ _
@[simp] theorem refuse_cfg : (refuse code s).cfg = s.cfg := State.modPort_cfg _ _ _
@[simp] theorem refuse_eff : (refuse code s).eff = s.eff := State.modPort_eff _ _ _
@[simp] theorem refuse_fsm : (refuse code s).fsm = s.fsm := State.modPort_fsm _ _ _
@[simp] theorem refuse_closing : (refuse code s).closing = s.closing := State.modPort_closing _ _ _
@[simp] theorem refuse_win : (refuse code s).win = s.win := State.modPort_win _ _ _
@[simp] theorem refuse_flag : (refuse code s).flag = s.flag := State.modPort_flag _ _ _
@[simp] theorem refuse_ctr : (refuse code s).ctr = s.ctr := State.modPort_ctr _ _ _
@[simp] theorem refuse_tim : (refuse code s).tim = s.tim := State.modPort_tim _ _ _
@[simp] theorem refuse_ring : (refuse code s).ring = s.ring := State.modPort_ring _ _ _
@[simp] theorem refuse_dec : (refuse code s).dec = s.dec := State.modPort_dec _ _ _
@[simp] theorem refuse_enc : (refuse code s).enc = s.enc := State.modPort_enc _ _ _
@[simp] theorem refuse_now : (refuse code s).now = s.now := State.modPort_now _ _ _
@[simp] theorem refuse_port : (refuse code s).port = s.port := State.modPort_port _ _ _
@[simp] theorem refuse_ticks : (refuse code s).ticks = s.ticks := State.modPort_ticks _ _ _

end

/-! ## setProc -/

section

variable (s : State) (pr : Proc)

@[simp] theorem setProc_params : (setProc pr s).params = s.params := State.modPort_params _ _ _
@[simp] theorem setProc_cfg : (setProc pr s).cfg = s.cfg := State.modPort_cfg _ _ _
@[simp] theorem setProc_eff : (setProc pr s).eff = s.eff := State.modPort_eff _ _ _
@[simp] theorem setProc_fsm : (setProc pr s).fsm = s.fsm := State.modPort_fsm _ _ _
@[simp] theorem setProc_closing : (setProc pr s).closing = s.closing := State.modPort_closing _ _ _
@[simp] theorem setProc_win : (setProc pr s).win = s.win := State.modPort_win _ _ _
@[simp] theorem setProc_flag : (setProc pr s).flag = s.flag := State.modPort_flag _ _ _
@[simp] theorem setProc_ctr : (setProc pr s).ctr = s.ctr := State.modPort_ctr _ _ _
@[simp] theorem setProc_tim : (setProc pr s).tim = s.tim := State.modPort_tim _ _ _
@[simp] theorem setProc_ring : (setProc pr s).ring = s.ring := State.modPort_ring _ _ _
@[simp] theorem setProc_dec : (setProc pr s).dec = s.dec := State.modPort_dec _ _ _
@[simp] theorem setProc_enc : (setProc pr s).enc = s.enc := State.modPort_enc _ _ _
@[simp] theorem setProc_now : (setProc pr s).now = s.now := State.modPort_now _ _ _
@[simp] theorem setProc_port : (setProc pr s).port = s.port := State.modPort_port _ _ _
@[simp] theorem setProc_ticks : (setProc pr s).ticks = s.ticks := State.modPort_ticks _ _ _

end

/-! ## endProc -/

section

variable (s : State) (res : Word)

@[simp] theorem endProc_params : (endProc res s).params = s.params := State.modPort_params _ _ _
@[simp] theorem endProc_cfg : (endProc res s).cfg = s.cfg := State.modPort_cfg _ _ _
@[simp] theorem endProc_eff : (endProc res s).eff = s.eff := State.modPort_eff _ _ _
@[simp] theorem endProc_fsm : (endProc res s).fsm = s.fsm := State.modPort_fsm _ _ _
@[simp] theorem endProc_closing : (endProc res s).closing = s.closing := State.modPort_closing _ _ _
@[simp] theorem endProc_win : (endProc res s).win = s.win := State.modPort_win _ _ _
@[simp] theorem endProc_flag : (endProc res s).flag = s.flag := State.modPort_flag _ _ _
@[simp] theorem endProc_ctr : (endProc res s).ctr = s.ctr := State.modPort_ctr _ _ _
@[simp] theorem endProc_tim : (endProc res s).tim = s.tim := State.modPort_tim _ _ _
@[simp] theorem endProc_ring : (endProc res s).ring = s.ring := State.modPort_ring _ _ _
@[simp] theorem endProc_dec : (endProc res s).dec = s.dec := State.modPort_dec _ _ _
@[simp] theorem endProc_enc : (endProc res s).enc = s.enc := State.modPort_enc _ _ _
@[simp] theorem endProc_now : (endProc res s).now = s.now := State.modPort_now _ _ _
@[simp] theorem endProc_port : (endProc res s).port = s.port := State.modPort_port _ _ _
@[simp] theorem endProc_ticks : (endProc res s).ticks = s.ticks := State.modPort_ticks _ _ _

/-- A count is returned as any other result (log 28). -/
@[simp] theorem endCount_eq (n : Nat) : endCount n s = endProc (BitVec.ofNat 32 n) s := rfl

end

/-! ## Frame lengths (log 6) -/

theorem wide_lt (n : BitVec 16) (carry : Bool) : wide n carry < 131072 := by
  unfold wide; have := n.isLt; split <;> omega

/-- A length is its 16 bits and its carry: two that stand for one number are equal. -/
theorem wide_inj {n m : BitVec 16} {a b : Bool} (h : wide n a = wide m b) : n = m ∧ a = b := by
  unfold wide at h
  have hn := n.isLt
  have hm := m.isLt
  cases a <;> cases b <;> simp at h
  · exact ⟨BitVec.eq_of_toNat_eq h, rfl⟩
  · omega
  · omega
  · exact ⟨BitVec.eq_of_toNat_eq h, rfl⟩

/-- A number below 2^17 is kept by its 16 bits and its carry. -/
theorem wide_ofNat {k : Nat} (h : k < 131072) : wide (BitVec.ofNat 16 k) (decide (65536 ≤ k)) = k := by
  unfold wide
  rw [BitVec.toNat_ofNat]
  by_cases h1 : 65536 ≤ k <;> (simp [h1]; omega)

/-- One more than a length, in its 16 bits and its carry. -/
theorem wide_succ {n : BitVec 16} {carry : Bool} (h : wide n carry + 1 < 131072) :
    wide (n + 1) (decide (65536 ≤ wide n carry + 1)) = wide n carry + 1 := by
  have e : n + 1 = BitVec.ofNat 16 (wide n carry + 1) := by
    apply BitVec.eq_of_toNat_eq
    rw [BitVec.toNat_ofNat, BitVec.toNat_add]
    unfold wide
    cases carry
    · simp
    · simp; omega
  rw [e, wide_ofNat h]

section

variable (d : Decoder) (v : Byte)

@[simp] theorem Decoder.clear_state : d.clear.state = d.state := rfl
@[simp] theorem Decoder.clear_stored : d.clear.stored = 0 := rfl
@[simp] theorem Decoder.clear_buf : d.clear.buf = d.buf := rfl
@[simp] theorem Decoder.push_state : (d.push v).state = d.state := rfl
@[simp] theorem Decoder.push_buf : (d.push v).buf = d.buf.write d.stored v := rfl

theorem Decoder.push_stored (h : d.stored + 1 < 131072) : (d.push v).stored = d.stored + 1 := wide_succ h

theorem Decoder.push_stored_le : (d.push v).stored ≤ d.stored + 1 := by
  by_cases h : d.stored + 1 < 131072
  · exact (d.push_stored v h).le
  · have h1 : (d.push v).stored < 131072 := wide_lt _ _
    omega

end

section

variable (e : Encoder) (frame : List Byte)

@[simp] theorem Encoder.stage_phase : (e.stage frame).phase = e.phase := rfl
@[simp] theorem Encoder.stage_lastFlag : (e.stage frame).lastFlag = e.lastFlag := rfl
@[simp] theorem Encoder.stage_buf : (e.stage frame).buf = memWrite e.buf 0 frame := rfl
@[simp] theorem Encoder.stage_txfNext : (e.stage frame).txfNext = e.txfNext := rfl
@[simp] theorem Encoder.stage_txfSlotValid : (e.stage frame).txfSlotValid = e.txfSlotValid := rfl
@[simp] theorem Encoder.stage_txfSlot : (e.stage frame).txfSlot = e.txfSlot := rfl
@[simp] theorem Encoder.atStart_phase : e.atStart.phase = e.phase := rfl
@[simp] theorem Encoder.atStart_lastFlag : e.atStart.lastFlag = e.lastFlag := rfl
@[simp] theorem Encoder.atStart_buf : e.atStart.buf = e.buf := rfl
@[simp] theorem Encoder.atStart_txfBytes : e.atStart.txfBytes = e.txfBytes := rfl
@[simp] theorem Encoder.atStart_txfNext : e.atStart.txfNext = 0 := rfl
@[simp] theorem Encoder.atStart_txfSlotValid : e.atStart.txfSlotValid = e.txfSlotValid := rfl
@[simp] theorem Encoder.atStart_txfSlot : e.atStart.txfSlot = e.txfSlot := rfl
@[simp] theorem Encoder.advance_phase : e.advance.phase = e.phase := rfl
@[simp] theorem Encoder.advance_lastFlag : e.advance.lastFlag = e.lastFlag := rfl
@[simp] theorem Encoder.advance_buf : e.advance.buf = e.buf := rfl
@[simp] theorem Encoder.advance_txfBytes : e.advance.txfBytes = e.txfBytes := rfl
@[simp] theorem Encoder.advance_txfSlotValid : e.advance.txfSlotValid = e.txfSlotValid := rfl
@[simp] theorem Encoder.advance_txfSlot : e.advance.txfSlot = e.txfSlot := rfl

theorem Encoder.stage_txfBytes (h : frame.length < 131072) : (e.stage frame).txfBytes = frame.length := wide_ofNat h

theorem Encoder.advance_txfNext (h : e.txfNext + 1 < 131072) : e.advance.txfNext = e.txfNext + 1 := wide_succ h

/-- The index stands at the frame's end where the numbers agree (R233). -/
theorem Encoder.pos_eq_len (h : e.txfNext = e.txfBytes) : e.txfPos = e.txfLen ∧ e.txfPosOver = e.txfLenOver := wide_inj h

end

end Sys2Proof.Machine
end

