-- ==== Sys2Proof/Laws/Fields.lean ====
section
/-! SUPPORT. What each shared procedure leaves unchanged, one lemma for each field, and the fields it sets outright. -/

namespace Sys2Proof.Machine

/-! ## modSlot -/

section

variable (s : State) (i : Nat) (f : Slot → Slot)

@[simp] theorem State.modSlot_params : (s.modSlot i f).params = s.params := rfl
@[simp] theorem State.modSlot_cfg : (s.modSlot i f).cfg = s.cfg := rfl
@[simp] theorem State.modSlot_eff : (s.modSlot i f).eff = s.eff := rfl
@[simp] theorem State.modSlot_fsm : (s.modSlot i f).fsm = s.fsm := rfl
@[simp] theorem State.modSlot_closing : (s.modSlot i f).closing = s.closing := rfl
@[simp] theorem State.modSlot_win : (s.modSlot i f).win = s.win := rfl
@[simp] theorem State.modSlot_flag : (s.modSlot i f).flag = s.flag := rfl
@[simp] theorem State.modSlot_ctr : (s.modSlot i f).ctr = s.ctr := rfl
@[simp] theorem State.modSlot_tim : (s.modSlot i f).tim = s.tim := rfl
@[simp] theorem State.modSlot_dec : (s.modSlot i f).dec = s.dec := rfl
@[simp] theorem State.modSlot_enc : (s.modSlot i f).enc = s.enc := rfl
@[simp] theorem State.modSlot_txp : (s.modSlot i f).txp = s.txp := rfl
@[simp] theorem State.modSlot_rxp : (s.modSlot i f).rxp = s.rxp := rfl
@[simp] theorem State.modSlot_apps : (s.modSlot i f).apps = s.apps := rfl
@[simp] theorem State.modSlot_now : (s.modSlot i f).now = s.now := rfl
@[simp] theorem State.modSlot_port : (s.modSlot i f).port = s.port := rfl
@[simp] theorem State.modSlot_ticks : (s.modSlot i f).ticks = s.ticks := rfl
@[simp] theorem State.modSlot_head : (s.modSlot i f).ring.head = s.ring.head := rfl
@[simp] theorem State.modSlot_count : (s.modSlot i f).ring.count = s.ring.count := rfl
@[simp] theorem State.modSlot_port? (q : PortId) : (s.modSlot i f).port? q = s.port? q := by cases q <;> rfl

end

/-! ## markSlots -/

section

variable (s : State) (p : Slot → Bool) (st : SlotState)

@[simp] theorem State.markSlots_params : (s.markSlots p st).params = s.params := rfl
@[simp] theorem State.markSlots_cfg : (s.markSlots p st).cfg = s.cfg := rfl
@[simp] theorem State.markSlots_eff : (s.markSlots p st).eff = s.eff := rfl
@[simp] theorem State.markSlots_fsm : (s.markSlots p st).fsm = s.fsm := rfl
@[simp] theorem State.markSlots_closing : (s.markSlots p st).closing = s.closing := rfl
@[simp] theorem State.markSlots_win : (s.markSlots p st).win = s.win := rfl
@[simp] theorem State.markSlots_flag : (s.markSlots p st).flag = s.flag := rfl
@[simp] theorem State.markSlots_ctr : (s.markSlots p st).ctr = s.ctr := rfl
@[simp] theorem State.markSlots_tim : (s.markSlots p st).tim = s.tim := rfl
@[simp] theorem State.markSlots_dec : (s.markSlots p st).dec = s.dec := rfl
@[simp] theorem State.markSlots_enc : (s.markSlots p st).enc = s.enc := rfl
@[simp] theorem State.markSlots_txp : (s.markSlots p st).txp = s.txp := rfl
@[simp] theorem State.markSlots_rxp : (s.markSlots p st).rxp = s.rxp := rfl
@[simp] theorem State.markSlots_apps : (s.markSlots p st).apps = s.apps := rfl
@[simp] theorem State.markSlots_now : (s.markSlots p st).now = s.now := rfl
@[simp] theorem State.markSlots_port : (s.markSlots p st).port = s.port := rfl
@[simp] theorem State.markSlots_ticks : (s.markSlots p st).ticks = s.ticks := rfl
@[simp] theorem State.markSlots_head : (s.markSlots p st).ring.head = s.ring.head := rfl
@[simp] theorem State.markSlots_count : (s.markSlots p st).ring.count = s.ring.count := rfl
@[simp] theorem State.markSlots_port? (q : PortId) : (s.markSlots p st).port? q = s.port? q := by cases q <;> rfl

end

/-! ## bumpFailGen -/

section

variable (s : State)

@[simp] theorem bumpFailGen_params : (bumpFailGen s).params = s.params := rfl
@[simp] theorem bumpFailGen_cfg : (bumpFailGen s).cfg = s.cfg := rfl
@[simp] theorem bumpFailGen_eff : (bumpFailGen s).eff = s.eff := rfl
@[simp] theorem bumpFailGen_fsm : (bumpFailGen s).fsm = s.fsm := rfl
@[simp] theorem bumpFailGen_closing : (bumpFailGen s).closing = s.closing := rfl
@[simp] theorem bumpFailGen_win : (bumpFailGen s).win = s.win := rfl
@[simp] theorem bumpFailGen_flag : (bumpFailGen s).flag = s.flag := rfl
@[simp] theorem bumpFailGen_tim : (bumpFailGen s).tim = s.tim := rfl
@[simp] theorem bumpFailGen_ring : (bumpFailGen s).ring = s.ring := rfl
@[simp] theorem bumpFailGen_dec : (bumpFailGen s).dec = s.dec := rfl
@[simp] theorem bumpFailGen_enc : (bumpFailGen s).enc = s.enc := rfl
@[simp] theorem bumpFailGen_txp : (bumpFailGen s).txp = s.txp := rfl
@[simp] theorem bumpFailGen_rxp : (bumpFailGen s).rxp = s.rxp := rfl
@[simp] theorem bumpFailGen_apps : (bumpFailGen s).apps = s.apps := rfl
@[simp] theorem bumpFailGen_now : (bumpFailGen s).now = s.now := rfl
@[simp] theorem bumpFailGen_port : (bumpFailGen s).port = s.port := rfl
@[simp] theorem bumpFailGen_ticks : (bumpFailGen s).ticks = s.ticks := rfl
@[simp] theorem bumpFailGen_port? (q : PortId) : (bumpFailGen s).port? q = s.port? q := by cases q <;> rfl

end

/-! ## failPending -/

section

variable (s : State)

@[simp] theorem failPending_params : (failPending s).params = s.params := rfl
@[simp] theorem failPending_cfg : (failPending s).cfg = s.cfg := rfl
@[simp] theorem failPending_eff : (failPending s).eff = s.eff := rfl
@[simp] theorem failPending_fsm : (failPending s).fsm = s.fsm := rfl
@[simp] theorem failPending_closing : (failPending s).closing = s.closing := rfl
@[simp] theorem failPending_win : (failPending s).win = s.win := rfl
@[simp] theorem failPending_flag : (failPending s).flag = s.flag := rfl
@[simp] theorem failPending_tim : (failPending s).tim = s.tim := rfl
@[simp] theorem failPending_dec : (failPending s).dec = s.dec := rfl
@[simp] theorem failPending_enc : (failPending s).enc = s.enc := rfl
@[simp] theorem failPending_txp : (failPending s).txp = s.txp := rfl
@[simp] theorem failPending_rxp : (failPending s).rxp = s.rxp := rfl
@[simp] theorem failPending_apps : (failPending s).apps = s.apps := rfl
@[simp] theorem failPending_now : (failPending s).now = s.now := rfl
@[simp] theorem failPending_port : (failPending s).port = s.port := rfl
@[simp] theorem failPending_ticks : (failPending s).ticks = s.ticks := rfl
@[simp] theorem failPending_head : (failPending s).ring.head = s.ring.head := rfl
@[simp] theorem failPending_count : (failPending s).ring.count = s.ring.count := rfl
@[simp] theorem failPending_port? (q : PortId) : (failPending s).port? q = s.port? q := by cases q <;> rfl

end

/-! ## resetSeq -/

section

variable (s : State)

@[simp] theorem resetSeq_params : (resetSeq s).params = s.params := rfl
@[simp] theorem resetSeq_cfg : (resetSeq s).cfg = s.cfg := rfl
@[simp] theorem resetSeq_eff : (resetSeq s).eff = s.eff := rfl
@[simp] theorem resetSeq_fsm : (resetSeq s).fsm = s.fsm := rfl
@[simp] theorem resetSeq_closing : (resetSeq s).closing = s.closing := rfl
@[simp] theorem resetSeq_win : (resetSeq s).win = ⟨0, 0, 0, 0⟩ := rfl
@[simp] theorem resetSeq_ctr : (resetSeq s).ctr = s.ctr := rfl
@[simp] theorem resetSeq_tim : (resetSeq s).tim = s.tim := rfl
@[simp] theorem resetSeq_dec : (resetSeq s).dec = s.dec := rfl
@[simp] theorem resetSeq_enc : (resetSeq s).enc = s.enc := rfl
@[simp] theorem resetSeq_txp : (resetSeq s).txp = s.txp := rfl
@[simp] theorem resetSeq_rxp : (resetSeq s).rxp = s.rxp := rfl
@[simp] theorem resetSeq_apps : (resetSeq s).apps = s.apps := rfl
@[simp] theorem resetSeq_now : (resetSeq s).now = s.now := rfl
@[simp] theorem resetSeq_port : (resetSeq s).port = s.port := rfl
@[simp] theorem resetSeq_ticks : (resetSeq s).ticks = s.ticks := rfl
@[simp] theorem resetSeq_head : (resetSeq s).ring.head = s.ring.head := rfl
@[simp] theorem resetSeq_count : (resetSeq s).ring.count = s.ring.count := rfl
@[simp] theorem resetSeq_port? (q : PortId) : (resetSeq s).port? q = s.port? q := by cases q <;> rfl

end

/-! ## enterConnecting -/

section

variable (s : State)

@[simp] theorem enterConnecting_params : (enterConnecting s).params = s.params := rfl
@[simp] theorem enterConnecting_cfg : (enterConnecting s).cfg = s.cfg := rfl
@[simp] theorem enterConnecting_eff : (enterConnecting s).eff = s.eff := rfl
@[simp] theorem enterConnecting_fsm : (enterConnecting s).fsm = .connecting := rfl
@[simp] theorem enterConnecting_closing : (enterConnecting s).closing = s.closing := rfl
@[simp] theorem enterConnecting_win : (enterConnecting s).win = s.win := rfl
@[simp] theorem enterConnecting_tim : (enterConnecting s).tim = s.tim := rfl
@[simp] theorem enterConnecting_ring : (enterConnecting s).ring = s.ring := rfl
@[simp] theorem enterConnecting_dec : (enterConnecting s).dec = s.dec := rfl
@[simp] theorem enterConnecting_enc : (enterConnecting s).enc = s.enc := rfl
@[simp] theorem enterConnecting_txp : (enterConnecting s).txp = s.txp := rfl
@[simp] theorem enterConnecting_rxp : (enterConnecting s).rxp = s.rxp := rfl
@[simp] theorem enterConnecting_apps : (enterConnecting s).apps = s.apps := rfl
@[simp] theorem enterConnecting_now : (enterConnecting s).now = s.now := rfl
@[simp] theorem enterConnecting_port : (enterConnecting s).port = s.port := rfl
@[simp] theorem enterConnecting_ticks : (enterConnecting s).ticks = s.ticks := rfl
@[simp] theorem enterConnecting_port? (q : PortId) : (enterConnecting s).port? q = s.port? q := by cases q <;> rfl

end

/-! ## enterConnected -/

section

variable (s : State)

@[simp] theorem enterConnected_params : (enterConnected s).params = s.params := rfl
@[simp] theorem enterConnected_cfg : (enterConnected s).cfg = s.cfg := rfl
@[simp] theorem enterConnected_eff : (enterConnected s).eff = s.eff := rfl
@[simp] theorem enterConnected_fsm : (enterConnected s).fsm = .connected := rfl
@[simp] theorem enterConnected_closing : (enterConnected s).closing = s.closing := rfl
@[simp] theorem enterConnected_win : (enterConnected s).win = s.win := rfl
@[simp] theorem enterConnected_ring : (enterConnected s).ring = s.ring := rfl
@[simp] theorem enterConnected_dec : (enterConnected s).dec = s.dec := rfl
@[simp] theorem enterConnected_enc : (enterConnected s).enc = s.enc := rfl
@[simp] theorem enterConnected_txp : (enterConnected s).txp = s.txp := rfl
@[simp] theorem enterConnected_rxp : (enterConnected s).rxp = s.rxp := rfl
@[simp] theorem enterConnected_apps : (enterConnected s).apps = s.apps := rfl
@[simp] theorem enterConnected_now : (enterConnected s).now = s.now := rfl
@[simp] theorem enterConnected_port : (enterConnected s).port = s.port := rfl
@[simp] theorem enterConnected_ticks : (enterConnected s).ticks = s.ticks := rfl
@[simp] theorem enterConnected_port? (q : PortId) : (enterConnected s).port? q = s.port? q := by cases q <;> rfl

end

/-! ## enterDisconnecting -/

section

variable (s : State)

@[simp] theorem enterDisconnecting_params : (enterDisconnecting s).params = s.params := rfl
@[simp] theorem enterDisconnecting_cfg : (enterDisconnecting s).cfg = s.cfg := rfl
@[simp] theorem enterDisconnecting_eff : (enterDisconnecting s).eff = s.eff := rfl
@[simp] theorem enterDisconnecting_fsm : (enterDisconnecting s).fsm = .disconnecting := rfl
@[simp] theorem enterDisconnecting_closing : (enterDisconnecting s).closing = s.closing := rfl
@[simp] theorem enterDisconnecting_win : (enterDisconnecting s).win = s.win := rfl
@[simp] theorem enterDisconnecting_tim : (enterDisconnecting s).tim = s.tim := rfl
@[simp] theorem enterDisconnecting_ring : (enterDisconnecting s).ring = s.ring := rfl
@[simp] theorem enterDisconnecting_dec : (enterDisconnecting s).dec = s.dec := rfl
@[simp] theorem enterDisconnecting_enc : (enterDisconnecting s).enc = s.enc := rfl
@[simp] theorem enterDisconnecting_txp : (enterDisconnecting s).txp = s.txp := rfl
@[simp] theorem enterDisconnecting_rxp : (enterDisconnecting s).rxp = s.rxp := rfl
@[simp] theorem enterDisconnecting_apps : (enterDisconnecting s).apps = s.apps := rfl
@[simp] theorem enterDisconnecting_now : (enterDisconnecting s).now = s.now := rfl
@[simp] theorem enterDisconnecting_port : (enterDisconnecting s).port = s.port := rfl
@[simp] theorem enterDisconnecting_ticks : (enterDisconnecting s).ticks = s.ticks := rfl
@[simp] theorem enterDisconnecting_port? (q : PortId) : (enterDisconnecting s).port? q = s.port? q := by cases q <;> rfl

end

/-! ## enterDisconnected -/

section

variable (s : State)

@[simp] theorem enterDisconnected_params : (enterDisconnected s).params = s.params := rfl
@[simp] theorem enterDisconnected_cfg : (enterDisconnected s).cfg = s.cfg := rfl
@[simp] theorem enterDisconnected_eff : (enterDisconnected s).eff = s.eff := rfl
@[simp] theorem enterDisconnected_fsm : (enterDisconnected s).fsm = .disconnected := rfl
@[simp] theorem enterDisconnected_closing : (enterDisconnected s).closing = s.closing := rfl
@[simp] theorem enterDisconnected_win : (enterDisconnected s).win = s.win := rfl
@[simp] theorem enterDisconnected_dec : (enterDisconnected s).dec = s.dec := rfl
@[simp] theorem enterDisconnected_enc : (enterDisconnected s).enc = s.enc := rfl
@[simp] theorem enterDisconnected_txp : (enterDisconnected s).txp = s.txp := rfl
@[simp] theorem enterDisconnected_rxp : (enterDisconnected s).rxp = s.rxp := rfl
@[simp] theorem enterDisconnected_apps : (enterDisconnected s).apps = s.apps := rfl
@[simp] theorem enterDisconnected_now : (enterDisconnected s).now = s.now := rfl
@[simp] theorem enterDisconnected_port : (enterDisconnected s).port = s.port := rfl
@[simp] theorem enterDisconnected_ticks : (enterDisconnected s).ticks = s.ticks := rfl
@[simp] theorem enterDisconnected_head : (enterDisconnected s).ring.head = s.ring.head := rfl
@[simp] theorem enterDisconnected_count : (enterDisconnected s).ring.count = s.ring.count := rfl
@[simp] theorem enterDisconnected_port? (q : PortId) : (enterDisconnected s).port? q = s.port? q := by cases q <;> rfl

end

/-! ## sendsNR -/

section

variable (s : State)

@[simp] theorem sendsNR_params : (sendsNR s).params = s.params := rfl
@[simp] theorem sendsNR_cfg : (sendsNR s).cfg = s.cfg := rfl
@[simp] theorem sendsNR_eff : (sendsNR s).eff = s.eff := rfl
@[simp] theorem sendsNR_fsm : (sendsNR s).fsm = s.fsm := rfl
@[simp] theorem sendsNR_closing : (sendsNR s).closing = s.closing := rfl
@[simp] theorem sendsNR_ctr : (sendsNR s).ctr = s.ctr := rfl
@[simp] theorem sendsNR_tim : (sendsNR s).tim = s.tim := rfl
@[simp] theorem sendsNR_ring : (sendsNR s).ring = s.ring := rfl
@[simp] theorem sendsNR_dec : (sendsNR s).dec = s.dec := rfl
@[simp] theorem sendsNR_enc : (sendsNR s).enc = s.enc := rfl
@[simp] theorem sendsNR_txp : (sendsNR s).txp = s.txp := rfl
@[simp] theorem sendsNR_rxp : (sendsNR s).rxp = s.rxp := rfl
@[simp] theorem sendsNR_apps : (sendsNR s).apps = s.apps := rfl
@[simp] theorem sendsNR_now : (sendsNR s).now = s.now := rfl
@[simp] theorem sendsNR_port : (sendsNR s).port = s.port := rfl
@[simp] theorem sendsNR_ticks : (sendsNR s).ticks = s.ticks := rfl
@[simp] theorem sendsNR_port? (q : PortId) : (sendsNR s).port? q = s.port? q := by cases q <;> rfl

end

/-! ## buildFrame -/

section

variable (s : State) (ctrl : Byte) (payload : List Byte)

@[simp] theorem buildFrame_params : (buildFrame ctrl payload s).params = s.params := rfl
@[simp] theorem buildFrame_cfg : (buildFrame ctrl payload s).cfg = s.cfg := rfl
@[simp] theorem buildFrame_eff : (buildFrame ctrl payload s).eff = s.eff := rfl
@[simp] theorem buildFrame_fsm : (buildFrame ctrl payload s).fsm = s.fsm := rfl
@[simp] theorem buildFrame_closing : (buildFrame ctrl payload s).closing = s.closing := rfl
@[simp] theorem buildFrame_win : (buildFrame ctrl payload s).win = s.win := rfl
@[simp] theorem buildFrame_flag : (buildFrame ctrl payload s).flag = s.flag := rfl
@[simp] theorem buildFrame_ctr : (buildFrame ctrl payload s).ctr = s.ctr := rfl
@[simp] theorem buildFrame_tim : (buildFrame ctrl payload s).tim = s.tim := rfl
@[simp] theorem buildFrame_ring : (buildFrame ctrl payload s).ring = s.ring := rfl
@[simp] theorem buildFrame_dec : (buildFrame ctrl payload s).dec = s.dec := rfl
@[simp] theorem buildFrame_txp : (buildFrame ctrl payload s).txp = s.txp := rfl
@[simp] theorem buildFrame_rxp : (buildFrame ctrl payload s).rxp = s.rxp := rfl
@[simp] theorem buildFrame_apps : (buildFrame ctrl payload s).apps = s.apps := rfl
@[simp] theorem buildFrame_now : (buildFrame ctrl payload s).now = s.now := rfl
@[simp] theorem buildFrame_port : (buildFrame ctrl payload s).port = s.port := rfl
@[simp] theorem buildFrame_ticks : (buildFrame ctrl payload s).ticks = s.ticks := rfl
@[simp] theorem buildFrame_phase : (buildFrame ctrl payload s).enc.phase = s.enc.phase := rfl
@[simp] theorem buildFrame_port? (q : PortId) : (buildFrame ctrl payload s).port? q = s.port? q := by cases q <;> rfl

end

/-! ## sendSlot -/

section

variable (s : State) (i : Nat)

@[simp] theorem sendSlot_params : (sendSlot i s).params = s.params := rfl
@[simp] theorem sendSlot_cfg : (sendSlot i s).cfg = s.cfg := rfl
@[simp] theorem sendSlot_eff : (sendSlot i s).eff = s.eff := rfl
@[simp] theorem sendSlot_fsm : (sendSlot i s).fsm = s.fsm := rfl
@[simp] theorem sendSlot_closing : (sendSlot i s).closing = s.closing := rfl
@[simp] theorem sendSlot_ctr : (sendSlot i s).ctr = s.ctr := rfl
@[simp] theorem sendSlot_tim : (sendSlot i s).tim = s.tim := rfl
@[simp] theorem sendSlot_dec : (sendSlot i s).dec = s.dec := rfl
@[simp] theorem sendSlot_txp : (sendSlot i s).txp = s.txp := rfl
@[simp] theorem sendSlot_rxp : (sendSlot i s).rxp = s.rxp := rfl
@[simp] theorem sendSlot_apps : (sendSlot i s).apps = s.apps := rfl
@[simp] theorem sendSlot_now : (sendSlot i s).now = s.now := rfl
@[simp] theorem sendSlot_port : (sendSlot i s).port = s.port := rfl
@[simp] theorem sendSlot_ticks : (sendSlot i s).ticks = s.ticks := rfl
@[simp] theorem sendSlot_head : (sendSlot i s).ring.head = s.ring.head := rfl
@[simp] theorem sendSlot_count : (sendSlot i s).ring.count = s.ring.count := rfl
@[simp] theorem sendSlot_phase : (sendSlot i s).enc.phase = s.enc.phase := rfl
@[simp] theorem sendSlot_port? (q : PortId) : (sendSlot i s).port? q = s.port? q := by cases q <;> rfl

end

/-! ## selectedI -/

section

variable (s : State)

@[simp] theorem selectedI_params : (selectedI s).params = s.params := rfl
@[simp] theorem selectedI_cfg : (selectedI s).cfg = s.cfg := rfl
@[simp] theorem selectedI_eff : (selectedI s).eff = s.eff := rfl
@[simp] theorem selectedI_fsm : (selectedI s).fsm = s.fsm := rfl
@[simp] theorem selectedI_closing : (selectedI s).closing = s.closing := rfl
@[simp] theorem selectedI_win : (selectedI s).win = s.win := rfl
@[simp] theorem selectedI_flag : (selectedI s).flag = s.flag := rfl
@[simp] theorem selectedI_ctr : (selectedI s).ctr = s.ctr := rfl
@[simp] theorem selectedI_ring : (selectedI s).ring = s.ring := rfl
@[simp] theorem selectedI_dec : (selectedI s).dec = s.dec := rfl
@[simp] theorem selectedI_enc : (selectedI s).enc = s.enc := rfl
@[simp] theorem selectedI_txp : (selectedI s).txp = s.txp := rfl
@[simp] theorem selectedI_rxp : (selectedI s).rxp = s.rxp := rfl
@[simp] theorem selectedI_apps : (selectedI s).apps = s.apps := rfl
@[simp] theorem selectedI_now : (selectedI s).now = s.now := rfl
@[simp] theorem selectedI_port : (selectedI s).port = s.port := rfl
@[simp] theorem selectedI_ticks : (selectedI s).ticks = s.ticks := rfl
@[simp] theorem selectedI_port? (q : PortId) : (selectedI s).port? q = s.port? q := by cases q <;> rfl

end

/-! ## selectedOther -/

section

variable (s : State)

@[simp] theorem selectedOther_params : (selectedOther s).params = s.params := rfl
@[simp] theorem selectedOther_cfg : (selectedOther s).cfg = s.cfg := rfl
@[simp] theorem selectedOther_eff : (selectedOther s).eff = s.eff := rfl
@[simp] theorem selectedOther_fsm : (selectedOther s).fsm = s.fsm := rfl
@[simp] theorem selectedOther_closing : (selectedOther s).closing = s.closing := rfl
@[simp] theorem selectedOther_win : (selectedOther s).win = s.win := rfl
@[simp] theorem selectedOther_flag : (selectedOther s).flag = s.flag := rfl
@[simp] theorem selectedOther_ctr : (selectedOther s).ctr = s.ctr := rfl
@[simp] theorem selectedOther_ring : (selectedOther s).ring = s.ring := rfl
@[simp] theorem selectedOther_dec : (selectedOther s).dec = s.dec := rfl
@[simp] theorem selectedOther_txp : (selectedOther s).txp = s.txp := rfl
@[simp] theorem selectedOther_rxp : (selectedOther s).rxp = s.rxp := rfl
@[simp] theorem selectedOther_apps : (selectedOther s).apps = s.apps := rfl
@[simp] theorem selectedOther_now : (selectedOther s).now = s.now := rfl
@[simp] theorem selectedOther_port : (selectedOther s).port = s.port := rfl
@[simp] theorem selectedOther_ticks : (selectedOther s).ticks = s.ticks := rfl
@[simp] theorem selectedOther_phase : (selectedOther s).enc.phase = s.enc.phase := rfl
@[simp] theorem selectedOther_port? (q : PortId) : (selectedOther s).port? q = s.port? q := by cases q <;> rfl

end

/-! ## startFrame -/

section

variable (s : State)

@[simp] theorem startFrame_params : (startFrame s).params = s.params := rfl
@[simp] theorem startFrame_cfg : (startFrame s).cfg = s.cfg := rfl
@[simp] theorem startFrame_eff : (startFrame s).eff = s.eff := rfl
@[simp] theorem startFrame_fsm : (startFrame s).fsm = s.fsm := rfl
@[simp] theorem startFrame_closing : (startFrame s).closing = s.closing := rfl
@[simp] theorem startFrame_win : (startFrame s).win = s.win := rfl
@[simp] theorem startFrame_flag : (startFrame s).flag = s.flag := rfl
@[simp] theorem startFrame_ctr : (startFrame s).ctr = s.ctr := rfl
@[simp] theorem startFrame_tim : (startFrame s).tim = s.tim := rfl
@[simp] theorem startFrame_ring : (startFrame s).ring = s.ring := rfl
@[simp] theorem startFrame_dec : (startFrame s).dec = s.dec := rfl
@[simp] theorem startFrame_txp : (startFrame s).txp = s.txp := rfl
@[simp] theorem startFrame_rxp : (startFrame s).rxp = s.rxp := rfl
@[simp] theorem startFrame_apps : (startFrame s).apps = s.apps := rfl
@[simp] theorem startFrame_now : (startFrame s).now = s.now := rfl
@[simp] theorem startFrame_port : (startFrame s).port = s.port := rfl
@[simp] theorem startFrame_ticks : (startFrame s).ticks = s.ticks := rfl
@[simp] theorem startFrame_port? (q : PortId) : (startFrame s).port? q = s.port? q := by cases q <;> rfl

end

/-! ## txAdvance -/

section

variable (s : State)

@[simp] theorem txAdvance_params : (txAdvance s).params = s.params := rfl
@[simp] theorem txAdvance_cfg : (txAdvance s).cfg = s.cfg := rfl
@[simp] theorem txAdvance_eff : (txAdvance s).eff = s.eff := rfl
@[simp] theorem txAdvance_fsm : (txAdvance s).fsm = s.fsm := rfl
@[simp] theorem txAdvance_closing : (txAdvance s).closing = s.closing := rfl
@[simp] theorem txAdvance_win : (txAdvance s).win = s.win := rfl
@[simp] theorem txAdvance_flag : (txAdvance s).flag = s.flag := rfl
@[simp] theorem txAdvance_ctr : (txAdvance s).ctr = s.ctr := rfl
@[simp] theorem txAdvance_tim : (txAdvance s).tim = s.tim := rfl
@[simp] theorem txAdvance_ring : (txAdvance s).ring = s.ring := rfl
@[simp] theorem txAdvance_dec : (txAdvance s).dec = s.dec := rfl
@[simp] theorem txAdvance_txp : (txAdvance s).txp = s.txp := rfl
@[simp] theorem txAdvance_rxp : (txAdvance s).rxp = s.rxp := rfl
@[simp] theorem txAdvance_apps : (txAdvance s).apps = s.apps := rfl
@[simp] theorem txAdvance_now : (txAdvance s).now = s.now := rfl
@[simp] theorem txAdvance_port : (txAdvance s).port = s.port := rfl
@[simp] theorem txAdvance_ticks : (txAdvance s).ticks = s.ticks := rfl
@[simp] theorem txAdvance_port? (q : PortId) : (txAdvance s).port? q = s.port? q := by cases q <;> rfl

end

/-! ## rewind -/

section

variable (s : State)

@[simp] theorem rewind_params : (rewind s).params = s.params := rfl
@[simp] theorem rewind_cfg : (rewind s).cfg = s.cfg := rfl
@[simp] theorem rewind_eff : (rewind s).eff = s.eff := rfl
@[simp] theorem rewind_fsm : (rewind s).fsm = s.fsm := rfl
@[simp] theorem rewind_closing : (rewind s).closing = s.closing := rfl
@[simp] theorem rewind_flag : (rewind s).flag = s.flag := rfl
@[simp] theorem rewind_ctr : (rewind s).ctr = s.ctr := rfl
@[simp] theorem rewind_tim : (rewind s).tim = s.tim := rfl
@[simp] theorem rewind_dec : (rewind s).dec = s.dec := rfl
@[simp] theorem rewind_enc : (rewind s).enc = s.enc := rfl
@[simp] theorem rewind_txp : (rewind s).txp = s.txp := rfl
@[simp] theorem rewind_rxp : (rewind s).rxp = s.rxp := rfl
@[simp] theorem rewind_apps : (rewind s).apps = s.apps := rfl
@[simp] theorem rewind_now : (rewind s).now = s.now := rfl
@[simp] theorem rewind_port : (rewind s).port = s.port := rfl
@[simp] theorem rewind_ticks : (rewind s).ticks = s.ticks := rfl
@[simp] theorem rewind_head : (rewind s).ring.head = s.ring.head := rfl
@[simp] theorem rewind_count : (rewind s).ring.count = s.ring.count := rfl
@[simp] theorem rewind_port? (q : PortId) : (rewind s).port? q = s.port? q := by cases q <;> rfl

end

/-! ## enqueue -/

section

variable (s : State) (p : List Byte)

@[simp] theorem enqueue_params : (enqueue p s).params = s.params := rfl
@[simp] theorem enqueue_cfg : (enqueue p s).cfg = s.cfg := rfl
@[simp] theorem enqueue_eff : (enqueue p s).eff = s.eff := rfl
@[simp] theorem enqueue_fsm : (enqueue p s).fsm = s.fsm := rfl
@[simp] theorem enqueue_closing : (enqueue p s).closing = s.closing := rfl
@[simp] theorem enqueue_win : (enqueue p s).win = s.win := rfl
@[simp] theorem enqueue_flag : (enqueue p s).flag = s.flag := rfl
@[simp] theorem enqueue_ctr : (enqueue p s).ctr = s.ctr := rfl
@[simp] theorem enqueue_tim : (enqueue p s).tim = s.tim := rfl
@[simp] theorem enqueue_dec : (enqueue p s).dec = s.dec := rfl
@[simp] theorem enqueue_enc : (enqueue p s).enc = s.enc := rfl
@[simp] theorem enqueue_txp : (enqueue p s).txp = s.txp := rfl
@[simp] theorem enqueue_rxp : (enqueue p s).rxp = s.rxp := rfl
@[simp] theorem enqueue_apps : (enqueue p s).apps = s.apps := rfl
@[simp] theorem enqueue_now : (enqueue p s).now = s.now := rfl
@[simp] theorem enqueue_port : (enqueue p s).port = s.port := rfl
@[simp] theorem enqueue_ticks : (enqueue p s).ticks = s.ticks := rfl
@[simp] theorem enqueue_port? (q : PortId) : (enqueue p s).port? q = s.port? q := by cases q <;> rfl

end

/-! ## oweUA -/

section

variable (s : State)

@[simp] theorem oweUA_params : (oweUA s).params = s.params := rfl
@[simp] theorem oweUA_cfg : (oweUA s).cfg = s.cfg := rfl
@[simp] theorem oweUA_eff : (oweUA s).eff = s.eff := rfl
@[simp] theorem oweUA_fsm : (oweUA s).fsm = s.fsm := rfl
@[simp] theorem oweUA_closing : (oweUA s).closing = s.closing := rfl
@[simp] theorem oweUA_win : (oweUA s).win = s.win := rfl
@[simp] theorem oweUA_ctr : (oweUA s).ctr = s.ctr := rfl
@[simp] theorem oweUA_tim : (oweUA s).tim = s.tim := rfl
@[simp] theorem oweUA_ring : (oweUA s).ring = s.ring := rfl
@[simp] theorem oweUA_dec : (oweUA s).dec = s.dec := rfl
@[simp] theorem oweUA_enc : (oweUA s).enc = s.enc := rfl
@[simp] theorem oweUA_txp : (oweUA s).txp = s.txp := rfl
@[simp] theorem oweUA_rxp : (oweUA s).rxp = s.rxp := rfl
@[simp] theorem oweUA_apps : (oweUA s).apps = s.apps := rfl
@[simp] theorem oweUA_now : (oweUA s).now = s.now := rfl
@[simp] theorem oweUA_port : (oweUA s).port = s.port := rfl
@[simp] theorem oweUA_ticks : (oweUA s).ticks = s.ticks := rfl
@[simp] theorem oweUA_port? (q : PortId) : (oweUA s).port? q = s.port? q := by cases q <;> rfl

end

/-! ## setPeerBusy -/

section

variable (s : State) (b : Bool)

@[simp] theorem setPeerBusy_params : (setPeerBusy b s).params = s.params := rfl
@[simp] theorem setPeerBusy_cfg : (setPeerBusy b s).cfg = s.cfg := rfl
@[simp] theorem setPeerBusy_eff : (setPeerBusy b s).eff = s.eff := rfl
@[simp] theorem setPeerBusy_fsm : (setPeerBusy b s).fsm = s.fsm := rfl
@[simp] theorem setPeerBusy_closing : (setPeerBusy b s).closing = s.closing := rfl
@[simp] theorem setPeerBusy_win : (setPeerBusy b s).win = s.win := rfl
@[simp] theorem setPeerBusy_ctr : (setPeerBusy b s).ctr = s.ctr := rfl
@[simp] theorem setPeerBusy_tim : (setPeerBusy b s).tim = s.tim := rfl
@[simp] theorem setPeerBusy_ring : (setPeerBusy b s).ring = s.ring := rfl
@[simp] theorem setPeerBusy_dec : (setPeerBusy b s).dec = s.dec := rfl
@[simp] theorem setPeerBusy_enc : (setPeerBusy b s).enc = s.enc := rfl
@[simp] theorem setPeerBusy_txp : (setPeerBusy b s).txp = s.txp := rfl
@[simp] theorem setPeerBusy_rxp : (setPeerBusy b s).rxp = s.rxp := rfl
@[simp] theorem setPeerBusy_apps : (setPeerBusy b s).apps = s.apps := rfl
@[simp] theorem setPeerBusy_now : (setPeerBusy b s).now = s.now := rfl
@[simp] theorem setPeerBusy_port : (setPeerBusy b s).port = s.port := rfl
@[simp] theorem setPeerBusy_ticks : (setPeerBusy b s).ticks = s.ticks := rfl
@[simp] theorem setPeerBusy_port? (q : PortId) : (setPeerBusy b s).port? q = s.port? q := by cases q <;> rfl

end

/-! ## Procedures with cases -/

section

variable (s : State)

@[simp] theorem owePoll_params (pf : Bool) : (owePoll pf s).params = s.params := by unfold owePoll; split <;> rfl
@[simp] theorem owePoll_cfg (pf : Bool) : (owePoll pf s).cfg = s.cfg := by unfold owePoll; split <;> rfl
@[simp] theorem owePoll_eff (pf : Bool) : (owePoll pf s).eff = s.eff := by unfold owePoll; split <;> rfl
@[simp] theorem owePoll_fsm (pf : Bool) : (owePoll pf s).fsm = s.fsm := by unfold owePoll; split <;> rfl
@[simp] theorem owePoll_closing (pf : Bool) : (owePoll pf s).closing = s.closing := by unfold owePoll; split <;> rfl
@[simp] theorem owePoll_win (pf : Bool) : (owePoll pf s).win = s.win := by unfold owePoll; split <;> rfl
@[simp] theorem owePoll_ctr (pf : Bool) : (owePoll pf s).ctr = s.ctr := by unfold owePoll; split <;> rfl
@[simp] theorem owePoll_tim (pf : Bool) : (owePoll pf s).tim = s.tim := by unfold owePoll; split <;> rfl
@[simp] theorem owePoll_ring (pf : Bool) : (owePoll pf s).ring = s.ring := by unfold owePoll; split <;> rfl
@[simp] theorem owePoll_dec (pf : Bool) : (owePoll pf s).dec = s.dec := by unfold owePoll; split <;> rfl
@[simp] theorem owePoll_enc (pf : Bool) : (owePoll pf s).enc = s.enc := by unfold owePoll; split <;> rfl
@[simp] theorem owePoll_txp (pf : Bool) : (owePoll pf s).txp = s.txp := by unfold owePoll; split <;> rfl
@[simp] theorem owePoll_rxp (pf : Bool) : (owePoll pf s).rxp = s.rxp := by unfold owePoll; split <;> rfl
@[simp] theorem owePoll_apps (pf : Bool) : (owePoll pf s).apps = s.apps := by unfold owePoll; split <;> rfl
@[simp] theorem owePoll_now (pf : Bool) : (owePoll pf s).now = s.now := by unfold owePoll; split <;> rfl
@[simp] theorem owePoll_port (pf : Bool) : (owePoll pf s).port = s.port := by unfold owePoll; split <;> rfl
@[simp] theorem owePoll_ticks (pf : Bool) : (owePoll pf s).ticks = s.ticks := by unfold owePoll; split <;> rfl

@[simp] theorem frmrTrigger_params : (frmrTrigger s).params = s.params := by unfold frmrTrigger; split <;> rfl
@[simp] theorem frmrTrigger_cfg : (frmrTrigger s).cfg = s.cfg := by unfold frmrTrigger; split <;> rfl
@[simp] theorem frmrTrigger_eff : (frmrTrigger s).eff = s.eff := by unfold frmrTrigger; split <;> rfl
@[simp] theorem frmrTrigger_fsm : (frmrTrigger s).fsm = s.fsm := by unfold frmrTrigger; split <;> rfl
@[simp] theorem frmrTrigger_closing : (frmrTrigger s).closing = s.closing := by unfold frmrTrigger; split <;> rfl
@[simp] theorem frmrTrigger_win : (frmrTrigger s).win = s.win := by unfold frmrTrigger; split <;> rfl
@[simp] theorem frmrTrigger_ctr : (frmrTrigger s).ctr = s.ctr := by unfold frmrTrigger; split <;> rfl
@[simp] theorem frmrTrigger_tim : (frmrTrigger s).tim = s.tim := by unfold frmrTrigger; split <;> rfl
@[simp] theorem frmrTrigger_ring : (frmrTrigger s).ring = s.ring := by unfold frmrTrigger; split <;> rfl
@[simp] theorem frmrTrigger_dec : (frmrTrigger s).dec = s.dec := by unfold frmrTrigger; split <;> rfl
@[simp] theorem frmrTrigger_enc : (frmrTrigger s).enc = s.enc := by unfold frmrTrigger; split <;> rfl
@[simp] theorem frmrTrigger_txp : (frmrTrigger s).txp = s.txp := by unfold frmrTrigger; split <;> rfl
@[simp] theorem frmrTrigger_rxp : (frmrTrigger s).rxp = s.rxp := by unfold frmrTrigger; split <;> rfl
@[simp] theorem frmrTrigger_apps : (frmrTrigger s).apps = s.apps := by unfold frmrTrigger; split <;> rfl
@[simp] theorem frmrTrigger_now : (frmrTrigger s).now = s.now := by unfold frmrTrigger; split <;> rfl
@[simp] theorem frmrTrigger_port : (frmrTrigger s).port = s.port := by unfold frmrTrigger; split <;> rfl
@[simp] theorem frmrTrigger_ticks : (frmrTrigger s).ticks = s.ticks := by unfold frmrTrigger; split <;> rfl

@[simp] theorem receiveOutOfSeq_params : (receiveOutOfSeq s).params = s.params := by unfold receiveOutOfSeq; split <;> rfl
@[simp] theorem receiveOutOfSeq_cfg : (receiveOutOfSeq s).cfg = s.cfg := by unfold receiveOutOfSeq; split <;> rfl
@[simp] theorem receiveOutOfSeq_eff : (receiveOutOfSeq s).eff = s.eff := by unfold receiveOutOfSeq; split <;> rfl
@[simp] theorem receiveOutOfSeq_fsm : (receiveOutOfSeq s).fsm = s.fsm := by unfold receiveOutOfSeq; split <;> rfl
@[simp] theorem receiveOutOfSeq_closing : (receiveOutOfSeq s).closing = s.closing := by unfold receiveOutOfSeq; split <;> rfl
@[simp] theorem receiveOutOfSeq_win : (receiveOutOfSeq s).win = s.win := by unfold receiveOutOfSeq; split <;> rfl
@[simp] theorem receiveOutOfSeq_ctr : (receiveOutOfSeq s).ctr = s.ctr := by unfold receiveOutOfSeq; split <;> rfl
@[simp] theorem receiveOutOfSeq_tim : (receiveOutOfSeq s).tim = s.tim := by unfold receiveOutOfSeq; split <;> rfl
@[simp] theorem receiveOutOfSeq_ring : (receiveOutOfSeq s).ring = s.ring := by unfold receiveOutOfSeq; split <;> rfl
@[simp] theorem receiveOutOfSeq_dec : (receiveOutOfSeq s).dec = s.dec := by unfold receiveOutOfSeq; split <;> rfl
@[simp] theorem receiveOutOfSeq_enc : (receiveOutOfSeq s).enc = s.enc := by unfold receiveOutOfSeq; split <;> rfl
@[simp] theorem receiveOutOfSeq_txp : (receiveOutOfSeq s).txp = s.txp := by unfold receiveOutOfSeq; split <;> rfl
@[simp] theorem receiveOutOfSeq_rxp : (receiveOutOfSeq s).rxp = s.rxp := by unfold receiveOutOfSeq; split <;> rfl
@[simp] theorem receiveOutOfSeq_apps : (receiveOutOfSeq s).apps = s.apps := by unfold receiveOutOfSeq; split <;> rfl
@[simp] theorem receiveOutOfSeq_now : (receiveOutOfSeq s).now = s.now := by unfold receiveOutOfSeq; split <;> rfl
@[simp] theorem receiveOutOfSeq_port : (receiveOutOfSeq s).port = s.port := by unfold receiveOutOfSeq; split <;> rfl
@[simp] theorem receiveOutOfSeq_ticks : (receiveOutOfSeq s).ticks = s.ticks := by unfold receiveOutOfSeq; split <;> rfl

@[simp] theorem ackOne_params : (ackOne s).params = s.params := by unfold ackOne; split <;> rfl
@[simp] theorem ackOne_cfg : (ackOne s).cfg = s.cfg := by unfold ackOne; split <;> rfl
@[simp] theorem ackOne_eff : (ackOne s).eff = s.eff := by unfold ackOne; split <;> rfl
@[simp] theorem ackOne_fsm : (ackOne s).fsm = s.fsm := by unfold ackOne; split <;> rfl
@[simp] theorem ackOne_closing : (ackOne s).closing = s.closing := by unfold ackOne; split <;> rfl
@[simp] theorem ackOne_flag : (ackOne s).flag = s.flag := by unfold ackOne; split <;> rfl
@[simp] theorem ackOne_ctr : (ackOne s).ctr = s.ctr := by unfold ackOne; split <;> rfl
@[simp] theorem ackOne_tim : (ackOne s).tim = s.tim := by unfold ackOne; split <;> rfl
@[simp] theorem ackOne_dec : (ackOne s).dec = s.dec := by unfold ackOne; split <;> rfl
@[simp] theorem ackOne_enc : (ackOne s).enc = s.enc := by unfold ackOne; split <;> rfl
@[simp] theorem ackOne_txp : (ackOne s).txp = s.txp := by unfold ackOne; split <;> rfl
@[simp] theorem ackOne_rxp : (ackOne s).rxp = s.rxp := by unfold ackOne; split <;> rfl
@[simp] theorem ackOne_apps : (ackOne s).apps = s.apps := by unfold ackOne; split <;> rfl
@[simp] theorem ackOne_now : (ackOne s).now = s.now := by unfold ackOne; split <;> rfl
@[simp] theorem ackOne_port : (ackOne s).port = s.port := by unfold ackOne; split <;> rfl
@[simp] theorem ackOne_ticks : (ackOne s).ticks = s.ticks := by unfold ackOne; split <;> rfl
@[simp] theorem ackOne_head : (ackOne s).ring.head = s.ring.head := by unfold ackOne; split <;> rfl
@[simp] theorem ackOne_count : (ackOne s).ring.count = s.ring.count := by unfold ackOne; split <;> rfl

@[simp] theorem frameDone_params : (frameDone s).params = s.params := by simp only [frameDone]; split_ifs <;> rfl
@[simp] theorem frameDone_cfg : (frameDone s).cfg = s.cfg := by simp only [frameDone]; split_ifs <;> rfl
@[simp] theorem frameDone_eff : (frameDone s).eff = s.eff := by simp only [frameDone]; split_ifs <;> rfl
@[simp] theorem frameDone_fsm : (frameDone s).fsm = s.fsm := by simp only [frameDone]; split_ifs <;> rfl
@[simp] theorem frameDone_closing : (frameDone s).closing = s.closing := by simp only [frameDone]; split_ifs <;> rfl
@[simp] theorem frameDone_win : (frameDone s).win = s.win := by simp only [frameDone]; split_ifs <;> rfl
@[simp] theorem frameDone_flag : (frameDone s).flag = s.flag := by simp only [frameDone]; split_ifs <;> rfl
@[simp] theorem frameDone_ctr : (frameDone s).ctr = s.ctr := by simp only [frameDone]; split_ifs <;> rfl
@[simp] theorem frameDone_tim : (frameDone s).tim = s.tim := by simp only [frameDone]; split_ifs <;> rfl
@[simp] theorem frameDone_dec : (frameDone s).dec = s.dec := by simp only [frameDone]; split_ifs <;> rfl
@[simp] theorem frameDone_txp : (frameDone s).txp = s.txp := by simp only [frameDone]; split_ifs <;> rfl
@[simp] theorem frameDone_rxp : (frameDone s).rxp = s.rxp := by simp only [frameDone]; split_ifs <;> rfl
@[simp] theorem frameDone_apps : (frameDone s).apps = s.apps := by simp only [frameDone]; split_ifs <;> rfl
@[simp] theorem frameDone_now : (frameDone s).now = s.now := by simp only [frameDone]; split_ifs <;> rfl
@[simp] theorem frameDone_port : (frameDone s).port = s.port := by simp only [frameDone]; split_ifs <;> rfl
@[simp] theorem frameDone_ticks : (frameDone s).ticks = s.ticks := by simp only [frameDone]; split_ifs <;> rfl
@[simp] theorem frameDone_head : (frameDone s).ring.head = s.ring.head := by simp only [frameDone]; split_ifs <;> rfl
@[simp] theorem frameDone_count : (frameDone s).ring.count = s.ring.count := by simp only [frameDone]; split_ifs <;> rfl

@[simp] theorem uTimer_params : (uTimer s).params = s.params := by unfold uTimer; dsimp only; split_ifs <;> rfl
@[simp] theorem uTimer_cfg : (uTimer s).cfg = s.cfg := by unfold uTimer; dsimp only; split_ifs <;> rfl
@[simp] theorem uTimer_eff : (uTimer s).eff = s.eff := by unfold uTimer; dsimp only; split_ifs <;> rfl
@[simp] theorem uTimer_closing : (uTimer s).closing = s.closing := by unfold uTimer; dsimp only; split_ifs <;> rfl
@[simp] theorem uTimer_win : (uTimer s).win = s.win := by unfold uTimer; dsimp only; split_ifs <;> rfl
@[simp] theorem uTimer_dec : (uTimer s).dec = s.dec := by unfold uTimer; dsimp only; split_ifs <;> rfl
@[simp] theorem uTimer_enc : (uTimer s).enc = s.enc := by unfold uTimer; dsimp only; split_ifs <;> rfl
@[simp] theorem uTimer_txp : (uTimer s).txp = s.txp := by unfold uTimer; dsimp only; split_ifs <;> rfl
@[simp] theorem uTimer_rxp : (uTimer s).rxp = s.rxp := by unfold uTimer; dsimp only; split_ifs <;> rfl
@[simp] theorem uTimer_apps : (uTimer s).apps = s.apps := by unfold uTimer; dsimp only; split_ifs <;> rfl
@[simp] theorem uTimer_now : (uTimer s).now = s.now := by unfold uTimer; dsimp only; split_ifs <;> rfl
@[simp] theorem uTimer_port : (uTimer s).port = s.port := by unfold uTimer; dsimp only; split_ifs <;> rfl
@[simp] theorem uTimer_ticks : (uTimer s).ticks = s.ticks := by unfold uTimer; dsimp only; split_ifs <;> rfl
@[simp] theorem uTimer_head : (uTimer s).ring.head = s.ring.head := by unfold uTimer; dsimp only; split_ifs <;> rfl
@[simp] theorem uTimer_count : (uTimer s).ring.count = s.ring.count := by unfold uTimer; dsimp only; split_ifs <;> rfl

@[simp] theorem timerPhase_params : (timerPhase s).params = s.params := by unfold timerPhase; split <;> (try split_ifs) <;> simp
@[simp] theorem timerPhase_cfg : (timerPhase s).cfg = s.cfg := by unfold timerPhase; split <;> (try split_ifs) <;> simp
@[simp] theorem timerPhase_eff : (timerPhase s).eff = s.eff := by unfold timerPhase; split <;> (try split_ifs) <;> simp
@[simp] theorem timerPhase_closing : (timerPhase s).closing = s.closing := by unfold timerPhase; split <;> (try split_ifs) <;> simp
@[simp] theorem timerPhase_win : (timerPhase s).win = s.win := by unfold timerPhase; split <;> (try split_ifs) <;> simp
@[simp] theorem timerPhase_dec : (timerPhase s).dec = s.dec := by unfold timerPhase; split <;> (try split_ifs) <;> simp
@[simp] theorem timerPhase_enc : (timerPhase s).enc = s.enc := by unfold timerPhase; split <;> (try split_ifs) <;> simp
@[simp] theorem timerPhase_txp : (timerPhase s).txp = s.txp := by unfold timerPhase; split <;> (try split_ifs) <;> simp
@[simp] theorem timerPhase_rxp : (timerPhase s).rxp = s.rxp := by unfold timerPhase; split <;> (try split_ifs) <;> simp
@[simp] theorem timerPhase_apps : (timerPhase s).apps = s.apps := by unfold timerPhase; split <;> (try split_ifs) <;> simp
@[simp] theorem timerPhase_now : (timerPhase s).now = s.now := by unfold timerPhase; split <;> (try split_ifs) <;> simp
@[simp] theorem timerPhase_port : (timerPhase s).port = s.port := by unfold timerPhase; split <;> (try split_ifs) <;> simp
@[simp] theorem timerPhase_ticks : (timerPhase s).ticks = s.ticks := by unfold timerPhase; split <;> (try split_ifs) <;> simp
@[simp] theorem timerPhase_head : (timerPhase s).ring.head = s.ring.head := by unfold timerPhase; split <;> (try split_ifs) <;> simp
@[simp] theorem timerPhase_count : (timerPhase s).ring.count = s.ring.count := by unfold timerPhase; split <;> (try split_ifs) <;> simp

@[simp] theorem storeByte_params (v : Byte) : (storeByte v s).params = s.params := by unfold storeByte; split <;> rfl
@[simp] theorem storeByte_cfg (v : Byte) : (storeByte v s).cfg = s.cfg := by unfold storeByte; split <;> rfl
@[simp] theorem storeByte_eff (v : Byte) : (storeByte v s).eff = s.eff := by unfold storeByte; split <;> rfl
@[simp] theorem storeByte_fsm (v : Byte) : (storeByte v s).fsm = s.fsm := by unfold storeByte; split <;> rfl
@[simp] theorem storeByte_closing (v : Byte) : (storeByte v s).closing = s.closing := by unfold storeByte; split <;> rfl
@[simp] theorem storeByte_win (v : Byte) : (storeByte v s).win = s.win := by unfold storeByte; split <;> rfl
@[simp] theorem storeByte_flag (v : Byte) : (storeByte v s).flag = s.flag := by unfold storeByte; split <;> rfl
@[simp] theorem storeByte_ctr (v : Byte) : (storeByte v s).ctr = s.ctr := by unfold storeByte; split <;> rfl
@[simp] theorem storeByte_tim (v : Byte) : (storeByte v s).tim = s.tim := by unfold storeByte; split <;> rfl
@[simp] theorem storeByte_ring (v : Byte) : (storeByte v s).ring = s.ring := by unfold storeByte; split <;> rfl
@[simp] theorem storeByte_enc (v : Byte) : (storeByte v s).enc = s.enc := by unfold storeByte; split <;> rfl
@[simp] theorem storeByte_txp (v : Byte) : (storeByte v s).txp = s.txp := by unfold storeByte; split <;> rfl
@[simp] theorem storeByte_rxp (v : Byte) : (storeByte v s).rxp = s.rxp := by unfold storeByte; split <;> rfl
@[simp] theorem storeByte_apps (v : Byte) : (storeByte v s).apps = s.apps := by unfold storeByte; split <;> rfl
@[simp] theorem storeByte_now (v : Byte) : (storeByte v s).now = s.now := by unfold storeByte; split <;> rfl
@[simp] theorem storeByte_port (v : Byte) : (storeByte v s).port = s.port := by unfold storeByte; split <;> rfl
@[simp] theorem storeByte_ticks (v : Byte) : (storeByte v s).ticks = s.ticks := by unfold storeByte; split <;> rfl

end

end Sys2Proof.Machine
end

