-- ==== Sys2Proof/Laws/Ports.lean ====
section
/-! SUPPORT. Ports: what a change of one port does to every port, and what a response, an event and a busy mark do to the
whole state, said once in the terms of Safety. -/

namespace Sys2Proof.Machine

/-! ## Changing one port -/

theorem State.port?_modPort_same (s : State) (p : PortId) (f : Port → Port) :
    (s.modPort p f).port? p = (s.port? p).map f := by
  cases p <;> simp [State.modPort, State.port?]

theorem State.port?_modPort_ne (s : State) (p p' : PortId) (f : Port → Port) (h : p' ≠ p) :
    (s.modPort p f).port? p' = s.port? p' := by
  cases p <;> cases p' <;> simp_all [State.modPort, State.port?, eq_comm]

theorem State.port?_modPort (s : State) (p p' : PortId) (f : Port → Port) :
    (s.modPort p f).port? p' = if p' = p then (s.port? p').map f else s.port? p' := by
  split_ifs with h
  · subst h; exact s.port?_modPort_same p' f
  · exact s.port?_modPort_ne p p' f h

@[simp] theorem State.setFields_port? (s : State) (e : Eff) (x : Fsm) (b : Bool) (w : Window) (f : Flags) (c : Counters)
    (t : Times) (r : Ring) (d : Decoder) (n : Encoder) (g : Cfg) (p : PortId) :
    State.port? { s with cfg := g, eff := e, fsm := x, closing := b, win := w, flag := f, ctr := c, tim := t, ring := r,
                         dec := d, enc := n } p = s.port? p := by cases p <;> rfl

/-! ## Everything but the ports -/

theorem SameBlock.refl (s : State) : SameBlock s s := ⟨rfl, rfl, rfl, rfl, rfl, rfl, rfl, rfl, rfl, rfl, rfl, rfl⟩

theorem SameBlock.trans {s t u : State} (h : SameBlock s t) (k : SameBlock t u) : SameBlock s u :=
  ⟨k.1.trans h.1, k.2.trans h.2, k.3.trans h.3, k.4.trans h.4, k.5.trans h.5, k.6.trans h.6, k.7.trans h.7, k.8.trans h.8,
   k.9.trans h.9, k.10.trans h.10, k.11.trans h.11, k.12.trans h.12⟩

theorem SameInputs.refl (s : State) : SameInputs s s := ⟨rfl, rfl, rfl⟩

theorem SameInputs.trans {s t u : State} (h : SameInputs s t) (k : SameInputs t u) : SameInputs s u :=
  ⟨k.1.trans h.1, k.2.trans h.2, k.3.trans h.3⟩

/-- A change of one port changes nothing of the block. -/
theorem State.modPort_sameBlock (s : State) (p : PortId) (f : Port → Port) : SameBlock s (s.modPort p f) := by
  constructor <;> simp

theorem State.modPort_sameInputs (s : State) (p : PortId) (f : Port → Port) : SameInputs s (s.modPort p f) := by
  constructor <;> simp

theorem State.modPort_sameOtherPorts (s : State) (p : PortId) (f : Port → Port) : SameOtherPorts p s (s.modPort p f) :=
  fun p' h => s.port?_modPort_ne p p' f h

/-! ## Responses -/

/-- A response does exactly what `AnsweredOnly` says. -/
theorem respond_answeredOnly (res : Word) (dout : List Byte) (s : State) : AnsweredOnly s (respond res dout s) res dout where
  block := s.modPort_sameBlock _ _
  inputs := s.modPort_sameInputs _ _
  others := s.modPort_sameOtherPorts _ _
  answer := by
    constructor
    · intro q hq hp
      rw [respond, s.port?_modPort_same, hq, Option.map_some, Port.answer, hp]
    · intro q pr hq hp
      rw [respond, s.port?_modPort_same, hq, Option.map_some, Port.answer, hp]

/-- A refusal changes nothing but the port that is answered (R533). -/
theorem refuse_answeredOnly (code : Word) (s : State) : AnsweredOnly s (refuse code s) code [] :=
  respond_answeredOnly code [] s

/-- A response leaves the channel of every port as it was. -/
theorem respond_port? (res : Word) (dout : List Byte) (s : State) (p : PortId) :
    (respond res dout s).port? p = if p = s.port then (s.port? p).map (Port.answer ⟨res, dout⟩) else s.port? p :=
  s.port?_modPort s.port p _

@[simp] theorem Port.answer_events (r : Response) (q : Port) : (q.answer r).events = q.events := by
  unfold Port.answer; split <;> rfl

@[simp] theorem Port.answer_cmd (r : Response) (q : Port) : (q.answer r).cmd = .idle := by
  unfold Port.answer; split <;> rfl

@[simp] theorem Port.answer_queue (r : Response) (q : Port) : (q.answer r).queue = q.queue := by
  unfold Port.answer; split <;> rfl

@[simp] theorem Port.answer_proc (r : Response) (q : Port) : (q.answer r).proc = q.proc := by
  unfold Port.answer; split <;> rfl

/-! ## Busy marks, events -/

/-- A port goes busy, and nothing else changes. -/
theorem setCmd_nowBusy (c : Cmd) (s : State) : NowBusy c s (setCmd c s) :=
  ⟨s.modPort_sameOtherPorts _ _, fun q hq => by rw [setCmd, s.port?_modPort_same, hq, Option.map_some]⟩

theorem setCmd_port? (c : Cmd) (s : State) (p : PortId) :
    (setCmd c s).port? p = if p = s.port then (s.port? p).map (fun q => { q with cmd := c }) else s.port? p :=
  s.port?_modPort s.port p _

theorem emit_port? (p : PortId) (ev : Event) (s : State) (p' : PortId) :
    (emit p ev s).port? p' =
      if p' = p then (s.port? p').map (fun q => { q with events := q.events ++ [ev] }) else s.port? p' :=
  s.port?_modPort p p' _

end Sys2Proof.Machine
end

