-- ==== Sys2Proof/Laws/Kept.lean ====
section
/-! SUPPORT. What every step is made of, said once. A property that reads nothing of the ports and of the inputs and that the
parts below keep is kept by every step. An invariant is then proved part by part, and no proof of one unfolds `step`. -/

namespace Sys2Proof.Machine

/-- The parts of a micro-step on the TX side: timers, completions, selection and the encoder. -/
structure KeptTx (P : State → Prop) : Prop where
  /-- Nothing of the block changes. -/
  block : ∀ s t, SameBlock s t → P s → P t
  /-- Any flag changes. -/
  flags : ∀ s f, P s → P (s.modFlag f)
  /-- Any timestamp changes. -/
  times : ∀ s f, P s → P (s.modTim f)
  /-- A counter other than `ka_unanswered` changes. -/
  counters : ∀ s f, (∀ c, (f c).kaUnanswered = c.kaUnanswered) → P s → P (s.modCtr f)
  /-- `fsm` moves inside the session, but not into CONNECTED. -/
  moves : ∀ s x, s.fsm ≠ .uninit → x ≠ .uninit → x ≠ .connected → P s → P (s.setFsm x)
  /-- Pending slots fail outside CONNECTED. -/
  fails : ∀ s, s.fsm ≠ .connected → P s → P (s.markSlots Slot.isPending .failed)
  /-- A window register other than `next_ns` and `confirm_ns` changes. -/
  window : ∀ s f, (∀ w, (f w).nextNs = w.nextNs ∧ (f w).confirmNs = w.confirmNs) → P s → P (s.modWin f)
  /-- The slot tag of the encoder changes. -/
  tag : ∀ s b i, P s → P (s.modEnc (fun e => { e with txfSlotValid := b, txfSlot := i }))
  /-- An idle encoder is given a frame. -/
  builds : ∀ s c p, s.enc.phase = .idle → P s → P (buildFrame c p s)
  /-- A frame just built is begun. -/
  starts : ∀ s c p, s.enc.phase = .idle → P s → P (startFrame (buildFrame c p s))
  /-- The first QUEUED slot is numbered and goes in flight (R311). -/
  sendsNew : ∀ s i, s.fsm = .connected → s.firstSlot (fun x => decide (x.state = .queued)) = some i →
    s.outstanding < s.w → P s →
    P ((s.modWin (fun w => { w with nextNs := w.nextNs + 1 })).modSlot i (fun x =>
      { x with seq := s.win.nextNs, state := .inFlight, sentAt := s.now }))
  /-- An expired slot goes in flight again (R312). -/
  resends : ∀ s i, s.fsm = .connected → s.firstSlot (fun x => s.slotExpired x && decide (x.retriesLeft ≠ 0)) = some i →
    P s → P (s.modSlot i (fun x => { x with retriesLeft := x.retriesLeft - 1, state := .inFlight, sentAt := s.now }))
  /-- A keep-alive RR is counted, where the peer is not lost (R313, R444). -/
  polls : ∀ s, s.fsm = .connected → s.ctr.kaUnanswered.toNat ≤ s.eff.retries.toNat → P s →
    P (s.modCtr (fun c => { c with kaUnanswered := c.kaUnanswered + 1 }))
  /-- An encoder that is not idle moves on, the frame in TxBuf as it is (R233). -/
  encodes : ∀ s f, s.enc.phase ≠ .idle → (∀ e, (f e).buf = e.buf ∧ (f e).txfBytes = e.txfBytes) → P s → P (s.modEnc f)
  /-- A slot in flight whose frame is out awaits its acknowledgement (R235). -/
  awaits : ∀ s i, (s.slot i).state = .inFlight → P s → P (s.modSlot i (fun x => { x with state := .awaitingAck }))
  /-- The finished slot at `head` is freed (R307). -/
  frees : ∀ s, s.ring.count ≠ 0 → (s.slot s.ring.head.toNat).isFinished = true → P s → P (deliverHead s)

/-- The parts of a micro-step on the RX side. -/
structure KeptRx (P : State → Prop) : Prop extends KeptTx P where
  /-- The keep-alive credit (R361). -/
  credits : ∀ s, P s → P (s.modCtr (fun c => { c with kaUnanswered := 0 }))
  /-- The connection is entered from any session state (R408). -/
  connects : ∀ s, s.fsm ≠ .uninit → P s → P (enterConnected (resetSeq s))
  /-- SABM in CONNECTED (R407). -/
  reconnects : ∀ s, s.fsm = .connected → P s → P (enterConnected (resetSeq (failPending s)))
  /-- One sequence number is acknowledged (R321). -/
  acks : ∀ s, s.fsm = .connected → 0 < s.outstanding → P s → P (ackOne s)
  /-- The sender goes back (R322). -/
  rewinds : ∀ s, s.fsm = .connected → P s → P (rewind s)
  /-- The decoder state changes. -/
  decState : ∀ s x, P s → P (s.modDec (fun d => { d with state := x }))
  /-- The frame in progress is dropped. -/
  decClear : ∀ s, P s → P (s.modDec Decoder.clear)
  /-- A byte is stored in RxBuf, where there is room (R238, R243). -/
  stores : ∀ s v, s.dec.stored ≠ s.rxCapacity → P s →
    P (s.modDec (Decoder.push v))

/-- The parts of every command's first micro-step, and of the completion of SEND_PACKET. -/
structure KeptCmd (P : State → Prop) : Prop extends KeptRx P where
  /-- WRITE_REG (R484). -/
  writes : ∀ s c, P s → P { s with cfg := c }
  /-- SET_KA_TIMEOUT (R481). -/
  kaTimeout : ∀ s ms, s.fsm ≠ .uninit → P s → P { s with eff := { s.eff with kaTimeout := ms } }
  /-- CLOSE phase 1 (R472). -/
  closes : ∀ s, s.fsm ≠ .uninit → P s → P { s with closing := true }
  /-- INIT (R471). -/
  inits : ∀ s, s.fsm = .uninit → s.cfg.legal s.params = true → P s → P (freshSession s)
  /-- Enqueue (R305). -/
  enqueues : ∀ s p, s.fsm ≠ .uninit → s.ring.count.toNat < s.w → P s → P (enqueue p s)

/-- The parts of every step. -/
structure Kept (P : State → Prop) : Prop extends KeptCmd P where
  /-- CLOSE phase 2 (R473). -/
  ends : ∀ s, P s → P (endSession s)
  /-- Hardware reset (R570). -/
  resets : ∀ s, P s → P (hardwareReset s)

namespace KeptTx

variable {P : State → Prop} (k : KeptTx P) {s : State}

include k

theorem modPort (p : PortId) (f : Port → Port) (h : P s) : P (s.modPort p f) := k.block _ _ (s.modPort_sameBlock p f) h

theorem respond (res : Word) (dout : List Byte) (h : P s) : P (respond res dout s) := k.modPort _ _ h

theorem refuse (code : Word) (h : P s) : P (refuse code s) := k.modPort _ _ h

theorem setCmd (c : Cmd) (h : P s) : P (setCmd c s) := k.modPort _ _ h

theorem emit (p : PortId) (ev : Event) (h : P s) : P (emit p ev s) := k.modPort _ _ h

theorem inSession (f : State → State) (h : P s) (hf : s.fsm ≠ .uninit → P (f s)) : P (inSession f s) := by
  unfold Machine.inSession
  split_ifs with hu
  · exact k.refuse _ h
  · exact hf hu

theorem bumpFailGen (h : P s) : P (bumpFailGen s) := k.counters _ _ (fun _ => rfl) h

/-! ## Timers -/

theorem enterConnecting (hs : s.fsm ≠ .uninit) (h : P s) : P (enterConnecting s) :=
  k.counters _ _ (fun _ => rfl) (k.flags _ _ (k.moves _ _ hs (by simp) (by simp) h))

theorem enterDisconnecting (hs : s.fsm ≠ .uninit) (h : P s) : P (enterDisconnecting s) :=
  k.counters _ _ (fun _ => rfl) (k.flags _ _ (k.moves _ _ hs (by simp) (by simp) h))

theorem enterDisconnected (hs : s.fsm ≠ .uninit) (h : P s) : P (enterDisconnected s) :=
  k.bumpFailGen (k.fails _ (by simp) (k.times _ _ (k.flags _ _ (k.moves _ _ hs (by simp) (by simp) h))))

theorem uTimer (hs : s.fsm ≠ .uninit) (h : P s) : P (uTimer s) := by
  unfold Machine.uTimer
  split
  · dsimp only
    split
    · exact k.enterDisconnected (by simpa using hs) (k.flags _ _ h)
    · exact k.flags _ _ (k.counters _ _ (fun _ => rfl) (k.flags _ _ h))
  · exact h

theorem timerPhase (h : P s) : P (timerPhase s) := by
  unfold Machine.timerPhase
  split
  · exact h
  · split_ifs
    · exact k.enterConnecting (by simp_all) h
    · exact h
  · exact k.uTimer (by simp_all) h
  · exact k.uTimer (by simp_all) h
  · split_ifs
    · exact k.enterDisconnected (by simp_all) h
    · exact k.enterDisconnected (by simp_all) h
    · exact h

/-! ## Completions -/

theorem deliverLoop (n : Nat) : ∀ {s : State}, P s → P (deliverLoop n s) := by
  induction n with
  | zero => exact fun h => h
  | succ n ih =>
    intro s h
    unfold Machine.deliverLoop
    split_ifs with hc
    · exact ih (k.frees _ hc.1 hc.2 h)
    · exact h

theorem deliverCompletions (h : P s) : P (deliverCompletions s) := k.deliverLoop _ h

/-! ## Selection and the encoder -/

theorem frameDone (hp : s.enc.phase ≠ .idle) (h : P s) : P (frameDone s) := by
  unfold Machine.frameDone
  dsimp only
  split_ifs with h1 h2
  · exact k.encodes _ _ hp (fun _ => ⟨rfl, rfl⟩) (k.awaits s _ h2 h)
  · exact k.encodes _ _ hp (fun _ => ⟨rfl, rfl⟩) h
  · exact h

/-- A byte is emitted (R233). -/
theorem emitByte (hp : s.enc.phase ≠ .idle) (h : P s) : P (emitByte s).1 := by
  have move : ∀ t f, t.enc.phase ≠ .idle → P t → (∀ e : Encoder, (f e).buf = e.buf ∧ (f e).txfBytes = e.txfBytes) → P (t.modEnc f) :=
    fun t f hp h hf => k.encodes t f hp hf h
  unfold Machine.emitByte
  dsimp only
  split
  · exact h
  · dsimp only
    apply move s _ hp h; exact fun _ => ⟨rfl, rfl⟩
  · split
    · dsimp only
      apply move
      · exact hp
      · apply move s _ hp h; exact fun _ => ⟨rfl, rfl⟩
      · exact fun _ => ⟨rfl, rfl⟩
    · unfold Machine.txAdvance
      dsimp only
      apply move
      · exact hp
      · apply move s _ hp h; exact fun _ => ⟨rfl, rfl⟩
      · exact fun _ => ⟨rfl, rfl⟩
  · unfold Machine.txAdvance
    dsimp only
    apply move s _ hp h; exact fun _ => ⟨rfl, rfl⟩
  · dsimp only
    refine move _ _ ?_ (k.frameDone hp h) (fun _ => ⟨rfl, rfl⟩)
    have : (Machine.frameDone s).enc.phase = s.enc.phase := by
      unfold Machine.frameDone; dsimp only; split_ifs <;> rfl
    rw [this]; exact hp

theorem sendsNR (h : P s) : P (sendsNR s) := k.flags _ _ (k.window _ _ (fun _ => ⟨rfl, rfl⟩) h)

/-- What priority 1 builds on. -/
theorem selectU (hi : s.enc.phase = .idle) (h : P s) {t : State} (ht : selectU s = some t) :
    ∃ c p u, P u ∧ u.enc.phase = .idle ∧ t = buildFrame c p u := by
  unfold Machine.selectU at ht
  split_ifs at ht <;> simp only [Option.some.injEq] at ht <;> subst ht
  · exact ⟨_, _, _, k.flags _ _ h, by simpa using hi, rfl⟩
  · exact ⟨_, _, _, k.flags _ _ h, by simpa using hi, rfl⟩
  · exact ⟨_, _, _, k.times _ _ (k.flags _ _ h), by simpa using hi, rfl⟩
  · exact ⟨_, _, _, k.times _ _ (k.flags _ _ h), by simpa using hi, rfl⟩

/-- What priority 2 builds on. -/
theorem selectAck (hi : s.enc.phase = .idle) (h : P s) {t : State} (ht : selectAck s = some t) :
    ∃ c p u, P u ∧ u.enc.phase = .idle ∧ t = buildFrame c p u := by
  unfold Machine.selectAck at ht
  split_ifs at ht <;> simp only [Option.some.injEq] at ht <;> subst ht
  · exact ⟨_, _, _, k.flags _ _ (k.sendsNR h), by simpa using hi, rfl⟩
  · exact ⟨_, _, _, k.flags _ _ (k.sendsNR h), by simpa using hi, rfl⟩

/-- What priority 3 builds on. -/
theorem selectNew (hc : s.fsm = .connected) (hi : s.enc.phase = .idle) (h : P s) {t : State} (ht : selectNew s = some t) :
    ∃ c p u, P u ∧ u.enc.phase = .idle ∧ t = buildFrame c p u := by
  unfold Machine.selectNew at ht
  split at ht
  · simp at ht
  split at ht
  · simp at ht
  · next i hf =>
    split at ht
    · simp at ht
    next hw =>
    simp only [Option.some.injEq] at ht
    subst ht
    refine ⟨_, _, _, k.sendsNR (k.tag _ _ _ (?_ : P _)), by simpa using hi, rfl⟩
    have := k.sendsNew s i hc hf (by omega) h
    simpa [State.modSlot, State.modRing, State.modWin, Function.comp_def, List.modify_modify_eq] using this

/-- What priority 4 builds on. -/
theorem selectRetx (hc : s.fsm = .connected) (hi : s.enc.phase = .idle) (h : P s) {t : State} (ht : selectRetx s = some t) :
    ∃ c p u, P u ∧ u.enc.phase = .idle ∧ t = buildFrame c p u := by
  unfold Machine.selectRetx at ht
  split at ht
  · simp at ht
  split at ht
  · simp at ht
  · next i hf =>
    simp only [Option.some.injEq] at ht
    subst ht
    refine ⟨_, _, _, k.sendsNR (k.tag _ _ _ (?_ : P _)), by simpa using hi, rfl⟩
    have := k.resends s i hc hf h
    simpa [State.modSlot, State.modRing, Function.comp_def, List.modify_modify_eq] using this

/-- What priority 5 builds on. -/
theorem selectKeepAlive (hc : s.fsm = .connected) (hl : s.keepAliveLost = false) (hi : s.enc.phase = .idle) (h : P s)
    {t : State} (ht : selectKeepAlive s = some t) : ∃ c p u, P u ∧ u.enc.phase = .idle ∧ t = buildFrame c p u := by
  unfold Machine.selectKeepAlive at ht
  split_ifs at ht with hk
  simp only [Option.some.injEq] at ht
  subst ht
  refine ⟨_, _, _, k.flags _ _ (k.sendsNR (k.polls s hc ?_ h)), by simpa using hi, rfl⟩
  simp only [not_or, Bool.not_eq_false] at hk
  have hz : s.eff.kaTimeout ≠ 0#32 := hk.1
  simpa [State.keepAliveLost, hz, hk.2] using hl

/-- What a selection builds on. In CONNECTED the timers have found no loss. -/
theorem selectByPriority (hl : s.fsm = .connected → s.keepAliveLost = false) (hi : s.enc.phase = .idle) (h : P s) {t : State}
    (ht : selectByPriority s = some t) :
    ∃ c p u, P u ∧ u.enc.phase = .idle ∧ (t = selectedI (buildFrame c p u) ∨ t = selectedOther (buildFrame c p u)) := by
  unfold Machine.selectByPriority at ht
  split at ht
  · next u hu =>
    obtain ⟨c, p, v, hv, hvi, rfl⟩ := k.selectU hi h hu
    exact ⟨c, p, v, hv, hvi, .inr (by simpa using ht.symm)⟩
  split at ht
  · next hc =>
    split at ht
    · next u hu =>
      obtain ⟨c, p, v, hv, hvi, rfl⟩ := k.selectAck hi h hu
      exact ⟨c, p, v, hv, hvi, .inr (by simpa using ht.symm)⟩
    split at ht
    · next u hu =>
      obtain ⟨c, p, v, hv, hvi, rfl⟩ := k.selectNew hc hi h hu
      exact ⟨c, p, v, hv, hvi, .inl (by simpa using ht.symm)⟩
    split at ht
    · next u hu =>
      obtain ⟨c, p, v, hv, hvi, rfl⟩ := k.selectRetx hc hi h hu
      exact ⟨c, p, v, hv, hvi, .inl (by simpa using ht.symm)⟩
    · obtain ⟨u, hu, rfl⟩ := Option.map_eq_some_iff.mp ht
      obtain ⟨c, p, v, hv, hvi, rfl⟩ := k.selectKeepAlive hc (hl hc) hi h hu
      exact ⟨c, p, v, hv, hvi, .inr rfl⟩
  · simp at ht

end KeptTx

/-- Where the timers leave CONNECTED up, the peer is not lost (R444). -/
theorem timerPhase_notLost (s : State) (h : (timerPhase s).fsm = .connected) : (timerPhase s).keepAliveLost = false := by
  have hu : ∀ u : State, u.fsm ≠ .connected → (uTimer u).fsm ≠ .connected := by
    intro u hu
    unfold uTimer
    dsimp only
    split_ifs <;> simp [hu]
  unfold timerPhase at h ⊢
  split at h
  · next hs => simp [hs] at h
  · next hs => split_ifs at h <;> simp_all
  · next hs => exact absurd h (hu s (by simp [hs]))
  · next hs => exact absurd h (hu s (by simp [hs]))
  · split_ifs at h ⊢ <;> simp_all

namespace KeptTx

variable {P : State → Prop} (k : KeptTx P) {s : State}

include k

/-- What SelectFrame builds on. -/
theorem selectFrame (hi : s.enc.phase = .idle) (h : P s) :
    ((Machine.selectFrame s).2 = false ∧ (Machine.selectFrame s).1 = Machine.timerPhase s) ∨
    ((Machine.selectFrame s).2 = true ∧ ∃ c p u, P u ∧ u.enc.phase = .idle ∧
      ((Machine.selectFrame s).1 = selectedI (buildFrame c p u) ∨
       (Machine.selectFrame s).1 = selectedOther (buildFrame c p u))) := by
  unfold Machine.selectFrame
  split
  · next t ht =>
    exact .inr ⟨rfl, k.selectByPriority (timerPhase_notLost s) (by simpa using hi) (k.timerPhase h) ht⟩
  · exact .inl ⟨rfl, rfl⟩

theorem encodeStep (h : P s) : P (encodeStep s).1 := by
  unfold Machine.encodeStep
  by_cases hi : s.enc.phase = .idle
  · rw [if_pos hi]
    rcases k.selectFrame hi h with ⟨h2, h1⟩ | ⟨h2, c, p, u, hu, hui, h1⟩
    · rw [if_neg (by simp [h2])]; dsimp only; rw [h1]; exact k.timerPhase h
    · rw [if_pos h2]
      apply k.emitByte
      · simp only [startFrame, State.modEnc_enc]; split <;> simp
      · rcases h1 with h1 | h1 <;> rw [h1]
        · exact k.times (startFrame (buildFrame c p u)) (fun t => { t with lastTx := u.now }) (k.starts u c p hui hu)
        · exact k.tag _ false u.enc.txfSlot
            (k.times (startFrame (buildFrame c p u)) (fun t => { t with lastTx := u.now }) (k.starts u c p hui hu))
  · rw [if_neg hi]; exact k.emitByte hi h

end KeptTx

/-! ## Received frames -/

/-- The number of unacknowledged sequence numbers goes down by one (R321). -/
theorem ackOne_outstanding (s : State) (h : 0 < s.outstanding) : (ackOne s).outstanding = s.outstanding - 1 := by
  have e : (ackOne s).win = { s.win with confirmNs := s.win.confirmNs + 1 } := by
    unfold ackOne; split <;> rfl
  unfold State.outstanding at h ⊢
  rw [e]
  generalize s.win.nextNs = a at h ⊢
  generalize s.win.confirmNs = b at h ⊢
  dsimp only
  revert a b
  decide

/-- The loop of ProcessNR, as far as the outstanding sequence numbers reach. -/
theorem repeat_ackOne (n : Nat) (s : State) (h : n ≤ s.outstanding) :
    (Nat.repeat ackOne n s).outstanding = s.outstanding - n ∧ (Nat.repeat ackOne n s).fsm = s.fsm := by
  induction n with
  | zero => exact ⟨rfl, rfl⟩
  | succ n ih =>
    obtain ⟨h1, h2⟩ := ih (by omega)
    refine ⟨?_, by simpa [Nat.repeat] using h2⟩
    rw [Nat.repeat, ackOne_outstanding _ (by omega), h1]
    omega

namespace KeptRx

variable {P : State → Prop} (k : KeptRx P) {s : State}

include k

theorem repeatAck (n : Nat) (hc : s.fsm = .connected) (hn : n ≤ s.outstanding) (h : P s) : P (Nat.repeat ackOne n s) := by
  induction n with
  | zero => exact h
  | succ n ih =>
    obtain ⟨h1, h2⟩ := repeat_ackOne n s (by omega)
    exact k.acks _ (h2.trans hc) (by omega) (ih (by omega))

theorem processNR (nr : Seq) (hc : s.fsm = .connected) (h : P s) : P (processNR nr s).1 := by
  unfold Machine.processNR
  split
  · next hv => exact k.repeatAck _ hc (by simpa [State.validNR] using hv) h
  · exact h

omit k in
theorem processNR_fsm (nr : Seq) (s : State) : (Machine.processNR nr s).1.fsm = s.fsm := by
  unfold Machine.processNR
  split
  · next hv => exact (repeat_ackOne _ s (by simpa [State.validNR] using hv)).2
  · rfl

theorem owePoll (pf : Bool) (h : P s) : P (owePoll pf s) := by
  unfold Machine.owePoll
  split
  · exact k.flags _ _ h
  · exact h

theorem receiveI (ns : Seq) (pf : Bool) (nr : Seq) (hc : s.fsm = .connected) (h : P s) : P (receiveI ns pf nr s) := by
  unfold Machine.receiveI Machine.receiveInSeq Machine.receiveOutOfSeq
  split
  · apply k.owePoll
    apply k.processNR
    · split <;> simpa using hc
    · apply k.flags
      split
      · exact k.window _ _ (fun _ => ⟨rfl, rfl⟩) (k.emit _ _ h)
      · exact k.times _ _ (k.window _ _ (fun _ => ⟨rfl, rfl⟩) (k.emit _ _ h))
  · split
    · exact h
    · exact k.flags _ _ h

theorem receiveRR (pf : Bool) (nr : Seq) (hc : s.fsm = .connected) (h : P s) : P (receiveRR pf nr s) :=
  k.flags _ (fun f => { f with peerBusy := false }) (k.processNR nr (by simpa using hc) (k.owePoll pf h))

theorem receiveRNR (pf : Bool) (nr : Seq) (hc : s.fsm = .connected) (h : P s) : P (receiveRNR pf nr s) :=
  k.flags _ (fun f => { f with peerBusy := true }) (k.processNR nr (by simpa using hc) (k.owePoll pf h))

theorem receiveREJ (pf : Bool) (nr : Seq) (hc : s.fsm = .connected) (h : P s) : P (receiveREJ pf nr s) := by
  have h1 : P (Machine.setPeerBusy false (Machine.processNR nr (Machine.owePoll pf s)).1) :=
    k.flags _ _ (k.processNR nr (by simpa using hc) (k.owePoll pf h))
  unfold Machine.receiveREJ
  dsimp only
  split
  · exact k.rewinds _ (by simpa [processNR_fsm] using hc) h1
  · exact h1

theorem frmrTrigger (h : P s) : P (frmrTrigger s) := by
  unfold Machine.frmrTrigger
  split
  · exact k.flags _ _ h
  · exact h

theorem rxSABM (hu : s.fsm ≠ .uninit) (h : P s) : P (rxSABM s) := by
  have e : Machine.rxSABM s =
      (enterConnected (resetSeq (if s.fsm = .connected then failPending s else s))).modFlag
        (fun f => { f with uaOwed := true }) := by unfold Machine.rxSABM; split <;> rfl
  rw [e]
  apply k.flags
  split
  · next hc => exact k.reconnects s hc h
  · exact k.connects s hu h

theorem rxUA (hu : s.fsm ≠ .uninit) (h : P s) : P (rxUA s) := by
  unfold Machine.rxUA
  split
  · exact k.connects s hu h
  · exact k.enterDisconnected hu h
  · exact h
  · exact h
  · exact h

theorem oweUA (h : P s) : P (oweUA s) := k.flags _ _ h

theorem rxDISC (hu : s.fsm ≠ .uninit) (h : P s) : P (rxDISC s) := by
  unfold Machine.rxDISC
  split
  · exact k.enterDisconnected hu (k.oweUA h)
  · exact k.enterDisconnected hu (k.oweUA h)
  · exact k.enterDisconnected hu (k.oweUA h)
  · exact k.oweUA h
  · exact k.oweUA h

theorem onFrame (f : State → State) (hf : ∀ t, t.fsm ≠ .uninit → P t → P (f t)) (h : P s) : P (onFrame f s) := by
  unfold Machine.onFrame
  split
  · exact h
  · next hn => exact hf _ (by simp only [not_or] at hn; simpa using hn.1) (k.credits s h)

theorem noPayload (f : State → State) (hf : P (f s)) (h : P s) : P (noPayload f s) := by
  unfold Machine.noPayload
  split
  · exact hf
  · exact k.frmrTrigger h

omit k in
theorem whenConnected (f : State → State) (hf : s.fsm = .connected → P (f s)) (h : P s) : P (whenConnected f s) := by
  unfold Machine.whenConnected
  split
  · next hc => exact hf hc
  · exact h

theorem receive (i : Instr) (h : P s) : P (receive i s) := by
  cases i
  case iFrame ns pf nr => exact k.onFrame _ (fun t _ ht => whenConnected _ (fun hc => k.receiveI ns pf nr hc ht) ht) h
  case rr pf nr =>
    exact k.onFrame _ (fun t _ ht => k.noPayload _ (whenConnected _ (fun hc => k.receiveRR pf nr hc ht) ht) ht) h
  case rej pf nr =>
    exact k.onFrame _ (fun t _ ht => k.noPayload _ (whenConnected _ (fun hc => k.receiveREJ pf nr hc ht) ht) ht) h
  case rnr pf nr =>
    exact k.onFrame _ (fun t _ ht => k.noPayload _ (whenConnected _ (fun hc => k.receiveRNR pf nr hc ht) ht) ht) h
  case sReserved => exact k.onFrame _ (fun t _ ht => k.frmrTrigger ht) h
  case sabm => exact k.onFrame _ (fun t hu ht => k.noPayload _ (k.rxSABM hu ht) ht) h
  case ua => exact k.onFrame _ (fun t hu ht => k.noPayload _ (k.rxUA hu ht) ht) h
  case disc => exact k.onFrame _ (fun t hu ht => k.noPayload _ (k.rxDISC hu ht) ht) h
  case frmr => exact k.onFrame _ (fun t _ ht => ht) h
  case uReserved => exact k.onFrame _ (fun t _ ht => k.frmrTrigger ht) h
  all_goals exact h

theorem storeByte (v : Byte) (h : P s) : P (storeByte v s) := by
  unfold Machine.storeByte
  split
  · exact k.decClear _ (k.decState s .hunt h)
  · next hl => exact k.stores s v hl h

theorem endOfFrame (h : P s) : P (endOfFrame s) := by
  unfold Machine.endOfFrame Machine.crcError Machine.processFrame
  split_ifs
  · exact h
  · exact k.emit _ _ (k.counters _ _ (fun _ => rfl) h)
  · exact k.receive _ h
  · exact h

theorem decodeByte (b : Byte) (h : P s) : P (decodeByte b s) := by
  unfold Machine.decodeByte
  split
  · split
    · exact k.decClear _ (k.decState s .reading h)
    · exact h
  · split_ifs
    · exact k.decClear _ (k.endOfFrame h)
    · exact k.decState s .escape h
    · exact k.storeByte b h
  · split
    · exact k.decClear _ (k.decState s .reading h)
    · exact k.storeByte _ (k.decState s .reading h)

theorem rxPutStep (din : List Byte) (h : P s) : P (rxPutStep din s) := by
  unfold Machine.rxPutStep
  split
  · exact k.respond _ _ h
  · split_ifs
    · exact k.respond _ _ h
    · exact k.respond _ _ (k.decodeByte _ h)
    · exact k.setCmd _ (k.decodeByte _ h)

end KeptRx

/-! ## Commands and steps -/

namespace KeptTx

variable {P : State → Prop} (k : KeptTx P) {s : State}

include k

theorem cmdTxGet (n : BitVec 16) (h : P s) : P (cmdTxGet n s) := by
  unfold Machine.cmdTxGet
  split
  · exact k.refuse _ h
  · apply k.inSession _ h
    intro _
    split
    · exact k.respond _ _ h
    · exact k.setCmd _ (k.deliverCompletions (k.timerPhase h))

theorem txGetStep (left : BitVec 16) (dout : List Byte) (ended : Bool) (h : P s) : P (txGetStep left dout ended s) := by
  unfold Machine.txGetStep Machine.txEpilogue Machine.txOutput
  split
  · exact k.respond _ _ (k.deliverCompletions h)
  · split
    · exact k.setCmd _ h
    · split
      · exact k.setCmd _ (k.encodeStep h)
      · exact k.setCmd _ (k.encodeStep h)

theorem cmdRxPut (din : List Byte) (h : P s) : P (cmdRxPut din s) := by
  unfold Machine.cmdRxPut
  split
  · exact k.refuse _ h
  · apply k.inSession _ h
    intro _
    split
    · exact k.respond _ _ h
    · exact k.setCmd _ h

theorem cmdSendPacket (p : List Byte) (h : P s) : P (cmdSendPacket p s) := by
  unfold Machine.cmdSendPacket
  split
  · exact k.refuse _ h
  · apply k.inSession _ h
    intro hu
    split_ifs
    · exact k.refuse _ h
    · exact k.refuse _ h
    · exact k.setCmd _ (k.enterConnecting hu h)
    · exact k.setCmd _ h

theorem cmdGetMtu (h : P s) : P (cmdGetMtu s) := k.inSession _ h (fun _ => k.respond _ _ h)

theorem cmdStatus (h : P s) : P (cmdStatus s) := k.inSession _ h (fun _ => k.respond _ _ h)

theorem cmdDisconnect (h : P s) : P (cmdDisconnect s) := by
  apply k.inSession _ h
  intro hu
  split
  · exact k.refuse _ h
  · split
    · exact k.respond _ _ (k.enterDisconnecting hu h)
    · exact k.respond _ _ h
    · exact k.refuse _ h
    · exact k.refuse _ h
    · exact k.refuse _ h

theorem cmdBufferSize (m : BitVec 16) (w c : Byte) (h : P s) : P (cmdBufferSize m w c s) := k.respond _ _ h

theorem cmdReadReg (n : Byte) (h : P s) : P (cmdReadReg n s) := by
  unfold Machine.cmdReadReg
  split
  · exact k.respond _ _ h
  · exact k.refuse _ h

theorem setProc (pr : Proc) (h : P s) : P (setProc pr s) := k.modPort _ _ h

theorem endProc (res : Word) (h : P s) : P (endProc res s) := k.modPort _ _ h

theorem endCount (n : Nat) (h : P s) : P (endCount n s) := k.endProc _ h

theorem procStep (pr : Proc) (r : Option Response) (h : P s) : P (procStep pr r s) := by
  unfold Machine.procStep Machine.runTxReply Machine.runTxCall Machine.runRxCall Machine.sendFragment Machine.sendReply
  dsimp only
  split
  · exact k.cmdTxGet _ (k.setProc _ h)
  · split
    · split
      · exact k.endProc _ h
      · exact k.setProc _ h
    · exact h
  · split_ifs
    · exact k.endProc _ h
    · exact k.setProc _ h
    · exact k.setProc _ h
  · split
    · exact k.endProc _ h
    · exact k.cmdRxPut _ (k.setProc _ h)
  · split
    · exact k.setProc _ h
    · exact h
  · exact k.cmdGetMtu (k.setProc _ h)
  · split
    · exact k.setProc _ h
    · exact h
  · split_ifs
    · exact k.endProc _ h
    · exact k.endProc _ h
    · exact k.cmdSendPacket _ (k.setProc _ h)
  · split
    · split_ifs
      · exact k.setProc _ h
      · exact k.endProc _ h
      · exact k.endProc _ h
    · exact h

end KeptTx

namespace KeptCmd

variable {P : State → Prop} (k : KeptCmd P) {s : State}

include k

theorem cmdInit (h : P s) : P (cmdInit s) := by
  unfold Machine.cmdInit
  split_ifs with h1 h2
  · exact k.refuse _ h
  · exact k.refuse _ h
  · exact k.respond _ _ (k.inits s (by simp only [ne_eq, not_or, not_not] at h1; exact h1.1) (by simpa using h2) h)

theorem cmdClose (h : P s) : P (cmdClose s) := by
  apply k.inSession _ h
  intro hu
  split
  · exact k.refuse _ h
  · exact k.setCmd _ (k.bumpFailGen (k.closes s hu h))

theorem sendPacketStep (p : List Byte) (t : Time) (gen : Word) (h : P s) : P (sendPacketStep p t gen s) := by
  unfold Machine.sendPacketStep
  split_ifs with ha hb hc
  · exact k.refuse _ h
  · simp only [not_or] at ha
    exact k.respond _ _ (k.enqueues s _ ha.2.1 hb.1 h)
  · exact k.refuse _ h
  · exact h

theorem exec (i : Instr) (h : P s) : ∃ t, exec i s = .next t ∧ P t := by
  cases i <;> refine ⟨_, rfl, ?_⟩
  case init => exact k.cmdInit h
  case close => exact k.cmdClose h
  case status => exact k.cmdStatus h
  case disconnect => exact k.cmdDisconnect h
  case txGet n => exact k.cmdTxGet n h
  case rxPut d => exact k.cmdRxPut d h
  case sendPacket p => exact k.cmdSendPacket p h
  case getMtu => exact k.cmdGetMtu h
  case setKaTimeout ms => exact k.inSession _ h (fun hu => k.respond _ _ (k.kaTimeout s ms hu h))
  case bufferSize m w c => exact k.cmdBufferSize m w c h
  case readReg n => exact k.cmdReadReg n h
  case writeReg n v =>
    unfold cmdWriteReg
    split
    · exact k.respond _ _ (k.writes s _ h)
    · exact k.refuse _ h
  case runTx => exact k.setProc _ h
  case runRx => exact k.setProc _ h
  case send => exact k.setProc _ h
  case iFrame ns pf nr => exact k.receive (.iFrame ns pf nr) h
  case rr pf nr => exact k.receive (.rr pf nr) h
  case rej pf nr => exact k.receive (.rej pf nr) h
  case rnr pf nr => exact k.receive (.rnr pf nr) h
  case sReserved pf nr => exact k.receive (.sReserved pf nr) h
  case sabm => exact k.receive .sabm h
  case ua => exact k.receive .ua h
  case disc => exact k.receive .disc h
  case frmr => exact k.receive .frmr h
  case uReserved c => exact k.receive (.uReserved c) h

end KeptCmd

namespace Kept

variable {P : State → Prop} (k : Kept P) {s : State}

include k

theorem closeEvents (h : P s) : P (closeEvents s) := by
  unfold Machine.closeEvents
  generalize s.ringOrder = l
  suffices H : ∀ t, P t → P (l.foldl (fun t i => Machine.emit s.port (s.sentEvent i) t) t) from H s h
  induction l with
  | nil => exact fun _ ht => ht
  | cons i l ih => exact fun t ht => ih _ (k.emit _ _ ht)

theorem microStep (c : Cmd) (h : P s) : P (microStep c s) := by
  unfold Machine.microStep Machine.closePhase2
  split
  · exact h
  · exact k.txGetStep _ _ _ h
  · exact k.rxPutStep _ h
  · exact k.sendPacketStep _ _ _ h
  · split
    · exact h
    · exact k.respond _ _ (k.ends _ (k.closeEvents h))

theorem runPort (q : Port) (h : P s) : ∃ t, runPort q s = .next t ∧ P t := by
  unfold Machine.runPort
  split
  · exact ⟨_, rfl, k.microStep _ h⟩
  · split
    · exact ⟨_, rfl, k.procStep _ _ h⟩
    · unfold Machine.accept
      split
      · exact ⟨_, rfl, h⟩
      · split
        · exact ⟨_, rfl, k.refuse _ (k.modPort _ _ h)⟩
        · exact k.exec _ (k.modPort _ _ h)

/-- A property whose parts are kept is kept by every step. -/
theorem step {t : State} (h : P s) (hs : step s = .next t) : P t := by
  have inputs : ∀ (p : PortId) (n : Time) (l : List Tick), P { s with now := n, port := p, ticks := l } :=
    fun p n l => k.block s _ ⟨rfl, rfl, rfl, rfl, rfl, rfl, rfl, rfl, rfl, rfl, rfl, rfl⟩ h
  unfold Machine.step Machine.runTick at hs
  split at hs
  · cases hs; exact h
  · split at hs
    · next p _ =>
      split at hs
      · cases hs
      · next q _ =>
        obtain ⟨u, hu, hp⟩ := k.runPort q (inputs p _ _)
        cases (hs.symm.trans hu)
        exact hp
    · split at hs
      · cases hs
      · cases hs; exact k.modPort _ _ (inputs s.port _ _)
    · cases hs; exact k.resets _ (inputs s.port _ _)

end Kept

end Sys2Proof.Machine
end

