-- ==== Sys2Proof/Laws/Memory.lean ====
section
/-! SUPPORT. Internal RAM: a write keeps the canonical form, a read after a write to the same address gives the byte
written, and a write leaves every other address alone; the same for `memRead` and `memWrite`. -/

namespace Sys2Proof.Machine

/-! ## Canonical form -/

theorem Memory.wf_cons (c : Host.Cell) (m : Memory) :
    Memory.wf (c :: m) = true ↔ (∀ d ∈ m.head?, c.1 < d.1) ∧ Memory.wf m = true := by
  cases m <;> simp [Memory.wf]

/-- The first entry after a write is the one written or the one that stood first. -/
theorem Memory.head?_write (m : Memory) (a : Nat) (v : Byte) (d : Host.Cell) (h : d ∈ (Memory.write m a v).head?) :
    d.1 = a ∨ ∃ e ∈ m.head?, e.1 = d.1 := by
  cases m with
  | nil => simp [Memory.write] at h; simp [← h]
  | cons c rest =>
    simp only [Memory.write] at h
    split_ifs at h <;> simp at h <;> subst h <;> simp

/-- A write keeps the canonical form. -/
theorem Memory.wf_write (m : Memory) (a : Nat) (v : Byte) (h : Memory.wf m = true) : Memory.wf (Memory.write m a v) = true := by
  induction m with
  | nil => rfl
  | cons c rest ih =>
    rw [Memory.wf_cons] at h
    simp only [Memory.write]
    split_ifs with h1 h2
    · simpa [Memory.wf_cons, h1] using h
    · subst h2; simpa [Memory.wf_cons] using h
    · rw [Memory.wf_cons]
      refine ⟨fun d hd => ?_, ih h.2⟩
      rcases Memory.head?_write rest a v d hd with rfl | ⟨e, he, hed⟩
      · omega
      · exact hed ▸ h.1 e he

/-- Writing a list keeps the canonical form. -/
theorem memWrite_wf (vs : List Byte) (m : Memory) (a : Nat) (h : Memory.wf m = true) : Memory.wf (memWrite m a vs) = true := by
  induction vs generalizing m a with
  | nil => exact h
  | cons v vs ih => exact ih _ _ (m.wf_write a v h)

/-! ## Reads and writes of one byte -/

/-- A read after a write to the same address. -/
@[simp] theorem Memory.find_write_same (m : Memory) (a : Nat) (v : Byte) : Memory.find (Memory.write m a v) a = some v := by
  induction m with
  | nil => simp [Memory.write, Memory.find]
  | cons c rest ih =>
    simp only [Memory.write]
    split_ifs with h1 h2
    · simp [Memory.find]
    · simp [Memory.find]
    · simp [Memory.find, h2, ih]

/-- A write leaves every other address alone. -/
theorem Memory.find_write_ne (m : Memory) (a b : Nat) (v : Byte) (h : b ≠ a) :
    Memory.find (Memory.write m a v) b = Memory.find m b := by
  induction m with
  | nil => simp [Memory.write, Memory.find, Ne.symm h]
  | cons c rest ih =>
    simp only [Memory.write]
    split_ifs with h1 h2
    · simp [Memory.find, Ne.symm h]
    · subst h2; simp [Memory.find, Ne.symm h]
    · simp [Memory.find, ih]

/-- A byte once written stays written. -/
theorem Memory.find_write_isSome (m : Memory) (a b : Nat) (v : Byte) (h : (Memory.find m b).isSome = true) :
    (Memory.find (Memory.write m a v) b).isSome = true := by
  by_cases hab : b = a
  · simp [hab]
  · rwa [Memory.find_write_ne m a b v hab]

/-! ## Reads and writes of byte lists -/

/-- What stands at an address after writing a list: the list's byte inside it, what stood there outside. -/
theorem find_memWrite (vs : List Byte) (m : Memory) (a b : Nat) :
    Memory.find (memWrite m a vs) b = if a ≤ b ∧ b < a + vs.length then vs[b - a]? else Memory.find m b := by
  induction vs generalizing m a with
  | nil => simp [memWrite]
  | cons v vs ih =>
    rw [memWrite, ih]
    by_cases hb : b = a
    · subst hb; simp
    · rw [Memory.find_write_ne m a b v hb]
      by_cases h : a + 1 ≤ b ∧ b < a + 1 + vs.length
      · have h2 : a ≤ b ∧ b < a + (v :: vs).length := by simp; omega
        rw [if_pos h, if_pos h2, show b - a = (b - (a + 1)) + 1 by omega, List.getElem?_cons_succ]
      · have h2 : ¬(a ≤ b ∧ b < a + (v :: vs).length) := by simp; omega
        rw [if_neg h, if_neg h2]

/-- MemRead returns as many bytes as asked for. -/
@[simp] theorem memRead_length (m : Memory) (r : Ram) (a n : Nat) : (memRead m r a n).length = n := by simp [memRead]

/-- A list read back from where it was written. -/
theorem memRead_memWrite (vs : List Byte) (m : Memory) (r : Ram) (a : Nat) :
    memRead (memWrite m a vs) r a vs.length = vs := by
  apply List.ext_getElem (by simp)
  intro k h1 h2
  simp [memRead, Memory.read, find_memWrite, h2]

/-- A read of addresses that a write leaves alone. -/
theorem memRead_write_of_lt (m : Memory) (r : Ram) (a n b : Nat) (v : Byte) (h : a + n ≤ b) :
    memRead (Memory.write m b v) r a n = memRead m r a n := by
  simp only [memRead, Memory.read]
  apply List.map_congr_left
  intro k hk
  rw [Memory.find_write_ne _ _ _ _ (by have := List.mem_range.mp hk; omega)]

/-- One byte more. -/
theorem memRead_succ (m : Memory) (r : Ram) (a n : Nat) :
    memRead m r a (n + 1) = memRead m r a n ++ [Memory.read m r (a + n)] := by
  simp [memRead, List.range_succ]

/-- A read in two parts. -/
theorem memRead_add (m : Memory) (r : Ram) (a n k : Nat) :
    memRead m r a (n + k) = memRead m r a n ++ memRead m r (a + n) k := by
  induction k with
  | zero => simp [memRead]
  | succ k ih => rw [← Nat.add_assoc, memRead_succ, ih, memRead_succ, List.append_assoc, Nat.add_assoc a n k]

/-- The storage has been written over the length of the list written. -/
theorem memWrite_written (vs : List Byte) (m : Memory) : Memory.Written (memWrite m 0 vs) vs.length := by
  intro a ha
  simp [find_memWrite, ha]

/-- What has been written stays written. -/
theorem Memory.Written.write (m : Memory) (n a : Nat) (v : Byte) (h : Memory.Written m n) :
    Memory.Written (Memory.write m a v) n := fun b hb => Memory.find_write_isSome m a b v (h b hb)

/-- The next byte written makes the written part one byte longer. -/
theorem Memory.Written.write_next (m : Memory) (n : Nat) (v : Byte) (h : Memory.Written m n) :
    Memory.Written (Memory.write m n v) (n + 1) := by
  intro b hb
  by_cases hbn : b = n
  · simp [hbn]
  · exact Memory.find_write_isSome m n b v (h b (by omega))

/-- Less of what has been written has been written. -/
theorem Memory.Written.mono {m : Memory} {n k : Nat} (h : Memory.Written m n) (hk : k ≤ n) : Memory.Written m k :=
  fun a ha => h a (by omega)

end Sys2Proof.Machine
end

