-- ==== Sys2Proof/Laws/PerInstr.lean ====
section
/-! SUPPORT. Statements about every instruction, one lemma for each constructor. -/

namespace Sys2Proof.Laws

/-- A row of spec/opcode_table.json: the bits that are fixed, and their values. -/
inductive TableRow where
  /-- The row of a command word. -/
  | command (fixed value : Word)
  /-- The row of a control octet. -/
  | octet (fixed value : Byte)
  /-- A host pseudo-operation: no word. -/
  | pseudo
  deriving DecidableEq, Repr

/-- The row of each instruction. -/
def tableRow : Instr → TableRow
  | .init => .command 0xFFFFFFFF 0x00000001
  | .close => .command 0xFFFFFFFF 0x00000002
  | .status => .command 0xFFFFFFFF 0x00000003
  | .disconnect => .command 0xFFFFFFFF 0x00000004
  | .txGet _ => .command 0x0000FFFF 0x00000005
  | .rxPut _ => .command 0x0000FFFF 0x00000006
  | .sendPacket _ => .command 0x0000FFFF 0x00000007
  | .getMtu => .command 0xFFFFFFFF 0x00000008
  | .setKaTimeout _ => .command 0xFFFFFFFF 0x00000009
  | .bufferSize _ _ _ => .command 0x000000FF 0x0000000A
  | .readReg _ => .command 0xFFFF00FF 0x0000000B
  | .writeReg _ _ => .command 0xFFFF00FF 0x0000000C
  | .runTx _ => .pseudo
  | .runRx _ => .pseudo
  | .send _ => .pseudo
  | .iFrame _ _ _ => .octet 0x01 0x00
  | .rr _ _ => .octet 0x0F 0x01
  | .rej _ _ => .octet 0x0F 0x05
  | .rnr _ _ => .octet 0x0F 0x09
  | .sReserved _ _ => .octet 0x0F 0x0D
  | .sabm => .octet 0xFF 0x2F
  | .ua => .octet 0xFF 0x63
  | .disc => .octet 0xFF 0x43
  | .frmr => .octet 0xFF 0x87
  | .uReserved _ => .octet 0x03 0x03

/-- The spelling keeps to the row. -/
def TableRow.holds : TableRow → Option Code → Bool
  | .command fixed value, some (.request r) => decide (r.cw &&& fixed = value)
  | .octet fixed value, some (.octet c) => decide (c &&& fixed = value)
  | .pseudo, none => true
  | .command _ _, none => false
  | .command _ _, some (.octet _) => false
  | .octet _ _, none => false
  | .octet _ _, some (.request _) => false
  | .pseudo, some _ => false

/-- An instruction is spelled with the bits that its row of the opcode table fixes. -/
def EncodesInTable.Statement (i : Instr) : Prop := (tableRow i).holds (encode i) = true

/-- The fixed bits of a command word whose index field is free. -/
theorem makeCw_fixed (opc idx : Byte) (len : BitVec 16) :
    makeCw opc idx len &&& 0x000000FF = opc.setWidth 32 := by
  apply BitVec.eq_of_getLsbD_eq
  intro i hi
  simp only [makeCw, BitVec.getLsbD_and, BitVec.getLsbD_or, BitVec.getLsbD_shiftLeft, BitVec.getLsbD_setWidth]
  by_cases h : i < 8
  · interval_cases i <;> simp
  · have h1 : (255#32).getLsbD i = false := by interval_cases i <;> first | omega | rfl
    have h2 : opc.getLsbD i = false := BitVec.getLsbD_of_ge _ _ (by omega)
    simp [h1, h2]

/-- The fixed bits of a command word whose length field is free. -/
theorem makeCw_fixed_low (opc : Byte) (len : BitVec 16) :
    makeCw opc 0 len &&& 0x0000FFFF = opc.setWidth 32 := by
  apply BitVec.eq_of_getLsbD_eq
  intro i hi
  simp only [makeCw, BitVec.getLsbD_and, BitVec.getLsbD_or, BitVec.getLsbD_shiftLeft, BitVec.getLsbD_setWidth]
  by_cases h : i < 8
  · interval_cases i <;> simp
  · have h2 : opc.getLsbD i = false := BitVec.getLsbD_of_ge _ _ (by omega)
    by_cases h3 : i < 16
    · simp [h2, h3]
    · have h1 : (65535#32).getLsbD i = false := by interval_cases i <;> first | omega | rfl
      simp [h1, h2]

/-- The fixed bits of a command word whose length field is 0 and whose index field is free. -/
theorem makeCw_fixed_reg (opc idx : Byte) :
    makeCw opc idx 0 &&& 0xFFFF00FF = opc.setWidth 32 := by
  apply BitVec.eq_of_getLsbD_eq
  intro i hi
  simp only [makeCw, BitVec.getLsbD_and, BitVec.getLsbD_or, BitVec.getLsbD_shiftLeft, BitVec.getLsbD_setWidth]
  by_cases h : i < 8
  · interval_cases i <;> simp
  · have h2 : opc.getLsbD i = false := BitVec.getLsbD_of_ge _ _ (by omega)
    by_cases h3 : i < 16
    · have h1 : (4294902015#32).getLsbD i = false := by interval_cases i <;> first | omega | rfl
      simp [h1, h2]
    · have h4 : idx.getLsbD (i - 8) = false := BitVec.getLsbD_of_ge _ _ (by omega)
      simp [h2, h4]

namespace EncodesInTable

theorem init : Statement .init := rfl
theorem close : Statement .close := rfl
theorem status : Statement .status := rfl
theorem disconnect : Statement .disconnect := rfl
theorem txGet (maxLen : BitVec 16) : Statement (.txGet maxLen) := decide_eq_true (makeCw_fixed_low _ _)
theorem rxPut (din : List Byte) : Statement (.rxPut din) := decide_eq_true (makeCw_fixed_low _ _)
theorem sendPacket (payload : List Byte) : Statement (.sendPacket payload) := decide_eq_true (makeCw_fixed_low _ _)
theorem getMtu : Statement .getMtu := rfl
theorem setKaTimeout (ms : Time) : Statement (.setKaTimeout ms) :=
  decide_eq_true (show makeCw 0x09 0 0 &&& 0xFFFFFFFF#32 = 0x09#32 by decide)
theorem bufferSize (mtu : BitVec 16) (window crc : Byte) : Statement (.bufferSize mtu window crc) := decide_eq_true (makeCw_fixed _ _ _)
theorem readReg (reg : Byte) : Statement (.readReg reg) := decide_eq_true (makeCw_fixed_reg _ _)
theorem writeReg (reg : Byte) (value : Word) : Statement (.writeReg reg value) := decide_eq_true (makeCw_fixed_reg _ _)
theorem runTx (writes : List Word) : Statement (.runTx writes) := rfl
theorem runRx (reads : List (List Byte)) : Statement (.runRx reads) := rfl
theorem send (buf : List Byte) : Statement (.send buf) := rfl
theorem iFrame (ns : Seq) (pf : Bool) (nr : Seq) : Statement (.iFrame ns pf nr) := by
  revert ns pf nr; unfold Statement; decide
theorem rr (pf : Bool) (nr : Seq) : Statement (.rr pf nr) := by
  revert pf nr; unfold Statement; decide
theorem rej (pf : Bool) (nr : Seq) : Statement (.rej pf nr) := by
  revert pf nr; unfold Statement; decide
theorem rnr (pf : Bool) (nr : Seq) : Statement (.rnr pf nr) := by
  revert pf nr; unfold Statement; decide
theorem sReserved (pf : Bool) (nr : Seq) : Statement (.sReserved pf nr) := by
  revert pf nr; unfold Statement; decide
theorem sabm : Statement .sabm := rfl
theorem ua : Statement .ua := rfl
theorem disc : Statement .disc := rfl
theorem frmr : Statement .frmr := rfl
theorem uReserved (kind : BitVec 6) : Statement (.uReserved kind) := by
  revert kind; unfold Statement; decide

end EncodesInTable

end Sys2Proof.Laws
end

