-- ==== Sys2Proof/Laws/Procedures.lean ====
section
/-! SUPPORT. One lemma for each condition and each shared procedure, which says once everything it does. -/

namespace Sys2Proof.Machine

/-! ## Conditions -/

theorem expired_iff (t0 now len : Time) : expired t0 now len = true ↔ len.toNat ≤ (now - t0).toNat :=
  decide_eq_true_iff

theorem expired_eq_false (t0 now len : Time) : expired t0 now len = false ↔ (now - t0).toNat < len.toNat := by
  rw [← Bool.not_eq_true, expired_iff, Nat.not_le]

theorem State.slotExpired_iff (s : State) (x : Slot) :
    s.slotExpired x = true ↔ x.state = .awaitingAck ∧ s.eff.retryTimeout.toNat ≤ (s.now - x.sentAt).toNat := by
  rw [State.slotExpired, Bool.and_eq_true, expired_iff, decide_eq_true_iff]

theorem State.iFrameExhausted_iff (s : State) :
    s.iFrameExhausted = true ↔ s.flag.peerBusy = false ∧ ∃ x ∈ s.ring.slots, x.state = .awaitingAck ∧
      s.eff.retryTimeout.toNat ≤ (s.now - x.sentAt).toNat ∧ x.retriesLeft = 0 := by
  simp only [State.iFrameExhausted, Bool.and_eq_true, Bool.not_eq_true', List.any_eq_true, s.slotExpired_iff,
    decide_eq_true_eq, and_assoc]

theorem State.keepAliveLost_iff (s : State) :
    s.keepAliveLost = true ↔ s.eff.kaTimeout ≠ 0 ∧ s.eff.kaTimeout.toNat ≤ (s.now - s.tim.lastTx).toNat ∧
      s.eff.retries.toNat < s.ctr.kaUnanswered.toNat := by
  simp only [State.keepAliveLost, Bool.and_eq_true, expired_iff, decide_eq_true_eq, and_assoc]

theorem State.admit_iff (s : State) :
    s.admission = true ↔ s.fsm = .connected ∨ (s.eff.acceptDisc = true ∧ s.fsm ≠ .uninit) := by
  simp only [State.admission, Bool.or_eq_true, Bool.and_eq_true, decide_eq_true_eq]

theorem State.validNR_iff (s : State) (nr : Seq) :
    s.validNR nr = true ↔ (nr - s.win.confirmNs).toNat ≤ (s.win.nextNs - s.win.confirmNs).toNat :=
  decide_eq_true_iff

theorem State.pumping_iff (s : State) :
    s.pumping = true ↔ (∃ n d e, s.txp.cmd = .txGet n d e) ∨ (∃ d, s.rxp.cmd = .rxPut d) := by
  unfold State.pumping
  rw [Bool.or_eq_true]
  apply or_congr
  · cases s.txp.cmd <;> simp
  · cases s.rxp.cmd <;> simp

theorem Slot.isSent_iff (x : Slot) : x.isSent = true ↔ x.state = .inFlight ∨ x.state = .awaitingAck := decide_eq_true_iff

theorem Slot.isFinished_iff (x : Slot) : x.isFinished = true ↔ x.state = .acked ∨ x.state = .failed := decide_eq_true_iff

theorem Slot.isPending_iff (x : Slot) :
    x.isPending = true ↔ x.state = .queued ∨ x.state = .inFlight ∨ x.state = .awaitingAck := decide_eq_true_iff

/-! ## Entry procedures, all that they do -/

theorem enterConnecting_eq (s : State) :
    enterConnecting s =
      { s with
        fsm := .connecting
        flag := { s.flag with sabmPending := true, discPending := false, uTimerRunning := false }
        ctr := { s.ctr with uRetriesLeft := s.eff.retries } } := rfl

theorem enterDisconnecting_eq (s : State) :
    enterDisconnecting s =
      { s with
        fsm := .disconnecting
        flag := { s.flag with discPending := true, sabmPending := false, uTimerRunning := false, frmrOwed := false,
                              rejOwed := false, ackOwed := false, pollOwed := false }
        ctr := { s.ctr with uRetriesLeft := s.eff.retries } } := rfl

theorem markSlots_pending (s : State) :
    s.markSlots Slot.isPending .failed =
      { s with ring := { s.ring with slots := s.ring.slots.map (fun x =>
        if x.state = .queued ∨ x.state = .inFlight ∨ x.state = .awaitingAck then { x with state := .failed } else x) } } := by
  simp only [State.markSlots, State.modRing, Slot.isPending_iff]

theorem markSlots_sent (s : State) (st : SlotState) :
    s.markSlots Slot.isSent st =
      { s with ring := { s.ring with slots := s.ring.slots.map (fun x =>
        if x.state = .inFlight ∨ x.state = .awaitingAck then { x with state := st } else x) } } := by
  simp only [State.markSlots, State.modRing, Slot.isSent_iff]

theorem enterDisconnected_eq (s : State) :
    enterDisconnected s =
      { s with
        fsm := .disconnected
        ring := { s.ring with slots := s.ring.slots.map (fun x =>
          if x.state = .queued ∨ x.state = .inFlight ∨ x.state = .awaitingAck then { x with state := .failed } else x) }
        flag := { s.flag with rejOwed := false, ackOwed := false, pollOwed := false, frmrOwed := false, sabmPending := false,
                              discPending := false, uTimerRunning := false }
        ctr := { s.ctr with failGen := s.ctr.failGen + 1 }
        tim := { s.tim with connBase := s.now, connWait := s.eff.retryTimeout } } := by
  rw [enterDisconnected, failPending, markSlots_pending]
  rfl

/-- ResetSeq and EnterConnected, which always go together (R403, R406). -/
theorem connect_eq (s : State) :
    enterConnected (resetSeq s) =
      { s with
        fsm := .connected
        ring := { s.ring with slots := s.ring.slots.map (fun x =>
          if x.state = .inFlight ∨ x.state = .awaitingAck then { x with state := .failed } else x) }
        win := ⟨0, 0, 0, 0⟩
        flag := { s.flag with peerBusy := false, rejSent := false, rejOwed := false, ackOwed := false, pollOwed := false,
                              frmrOwed := false, sabmPending := false, discPending := false, uTimerRunning := false }
        ctr := { s.ctr with kaUnanswered := 0 }
        tim := { s.tim with lastTx := s.now } } := by
  rw [resetSeq, markSlots_sent]
  rfl

/-! ## Timers -/

theorem timerPhase_uninit (s : State) (h : s.fsm = .uninit) : timerPhase s = s := by simp only [timerPhase, h]

theorem timerPhase_disconnected (s : State) (h : s.fsm = .disconnected) :
    timerPhase s = if s.tim.connWait.toNat ≤ (s.now - s.tim.connBase).toNat then enterConnecting s else s := by
  simp only [timerPhase, h, expired_iff]

theorem timerPhase_unnumbered (s : State) (h : s.fsm = .connecting ∨ s.fsm = .disconnecting) :
    timerPhase s = uTimer s := by
  rcases h with h | h <;> simp only [timerPhase, h]

theorem timerPhase_connected (s : State) (h : s.fsm = .connected) :
    timerPhase s = if s.iFrameExhausted = true ∨ s.keepAliveLost = true then enterDisconnected s else s := by
  simp only [timerPhase, h]
  by_cases h1 : s.iFrameExhausted = true <;> by_cases h2 : s.keepAliveLost = true <;> simp [h1, h2]

/-! ## Received frames -/

/-- The keep-alive credit (R361). -/
def credited (s : State) : State := { s with ctr := { s.ctr with kaUnanswered := 0 } }

theorem onFrame_running (k : State → State) (s : State) (h : Running s) : onFrame k s = k (credited s) := by
  simp only [onFrame, h.session, h.notClosing, Bool.false_eq_true, or_self, if_false]
  rfl

theorem onFrame_not_running (k : State → State) (s : State) (h : s.fsm = .uninit ∨ s.closing = true) : onFrame k s = s := by
  simp only [onFrame, h, if_true]

@[simp] theorem credited_fsm (s : State) : (credited s).fsm = s.fsm := rfl
@[simp] theorem credited_flag (s : State) : (credited s).flag = s.flag := rfl
@[simp] theorem credited_win (s : State) : (credited s).win = s.win := rfl
@[simp] theorem credited_ring (s : State) : (credited s).ring = s.ring := rfl
@[simp] theorem credited_eff (s : State) : (credited s).eff = s.eff := rfl
@[simp] theorem credited_rxPayload (s : State) : (credited s).rxPayload = s.rxPayload := rfl

theorem noPayload_nil (k : State → State) (s : State) (h : s.rxPayload = []) : noPayload k s = k s := by
  simp [noPayload, h]

theorem noPayload_cons (k : State → State) (s : State) (h : s.rxPayload ≠ []) : noPayload k s = frmrTrigger s := by
  simp [noPayload, h]

theorem whenConnected_yes (k : State → State) (s : State) (h : s.fsm = .connected) : whenConnected k s = k s := by
  simp [whenConnected, h]

theorem whenConnected_no (k : State → State) (s : State) (h : s.fsm ≠ .connected) : whenConnected k s = s := by
  simp [whenConnected, h]

theorem frmrTrigger_eq (s : State) :
    frmrTrigger s = { s with flag := { s.flag with frmrOwed := s.flag.frmrOwed || decide (s.fsm = .connected) } } := by
  unfold frmrTrigger
  split_ifs with h
  · rw [decide_eq_true h, Bool.or_true]; rfl
  · simp [h]

theorem owePoll_eq (pf : Bool) (s : State) :
    owePoll pf s = { s with flag := { s.flag with pollOwed := s.flag.pollOwed || pf } } := by
  cases pf
  · simp [owePoll]
  · simp only [owePoll, if_true, Bool.or_true]; rfl

/-! ## Received N(R) -/

/-- The loop of ProcessNR moves `confirm_ns` by the number of rounds, and else changes only the slots. -/
theorem repeat_ackOne_eq (n : Nat) (s : State) :
    Nat.repeat ackOne n s =
      { s with
        win := { s.win with confirmNs := s.win.confirmNs + BitVec.ofNat 3 n }
        ring := (Nat.repeat ackOne n s).ring } := by
  induction n with
  | zero => simp [Nat.repeat]
  | succ n ih =>
    have h1 : ∀ t : State, ackOne t =
        { t with win := { t.win with confirmNs := t.win.confirmNs + 1 }, ring := (ackOne t).ring } := by
      intro t; unfold ackOne; split <;> rfl
    rw [Nat.repeat, h1, ih]
    simp [BitVec.add_assoc, BitVec.ofNat_add]

/-- What ProcessNR changes: `confirm_ns` to a valid N(R), and slots. -/
theorem processNR_eq (nr : Seq) (s : State) :
    (processNR nr s).1 =
      { s with
        win := { s.win with confirmNs :=
          if (nr - s.win.confirmNs).toNat ≤ (s.win.nextNs - s.win.confirmNs).toNat then nr else s.win.confirmNs }
        ring := (processNR nr s).1.ring } := by
  unfold processNR
  simp only [s.validNR_iff]
  split_ifs with h
  · rw [repeat_ackOne_eq]
    have : s.win.confirmNs + BitVec.ofNat 3 (nr - s.win.confirmNs).toNat = nr := by
      rw [BitVec.ofNat_toNat, BitVec.setWidth_eq]
      generalize s.win.confirmNs = a
      clear h
      revert a nr
      decide
    simp only [this]
  · rfl

/-- ProcessNR answers whether the N(R) is valid. -/
theorem processNR_snd (nr : Seq) (s : State) :
    (processNR nr s).2 = decide ((nr - s.win.confirmNs).toNat ≤ (s.win.nextNs - s.win.confirmNs).toNat) := by
  unfold processNR
  simp only [s.validNR_iff]
  split_ifs with h
  · exact (decide_eq_true h).symm
  · exact (decide_eq_false h).symm

/-- The slots after ProcessNR depend only on the ring, the window registers and W. -/
theorem ackOne_ring_congr (s t : State) (hr : t.ring = s.ring) (he : t.eff = s.eff) : (ackOne t).ring = (ackOne s).ring := by
  have hs : t.slot = s.slot := by funext i; simp only [State.slot, hr]
  have hi : t.ringIndex = s.ringIndex := by funext j; simp only [State.ringIndex, State.w, hr, he]
  have hf : t.firstSlot Slot.isSent = s.firstSlot Slot.isSent := by
    simp only [State.firstSlot, State.ringOrder, hs, hi, hr]
  unfold ackOne
  rw [hf]
  split <;> simp [State.modSlot, State.modRing, hr]

theorem repeat_ackOne_ring_congr (n : Nat) (s t : State) (hr : t.ring = s.ring) (he : t.eff = s.eff) :
    (Nat.repeat ackOne n t).ring = (Nat.repeat ackOne n s).ring := by
  induction n with
  | zero => exact hr
  | succ n ih =>
    rw [Nat.repeat, Nat.repeat]
    apply ackOne_ring_congr _ _ ih
    rw [repeat_ackOne_eq n t, repeat_ackOne_eq n s]
    exact he

theorem processNR_ring_congr (nr : Seq) (s t : State) (hr : t.ring = s.ring) (he : t.eff = s.eff)
    (hn : t.win.nextNs = s.win.nextNs) (hc : t.win.confirmNs = s.win.confirmNs) :
    (processNR nr t).1.ring = (processNR nr s).1.ring := by
  unfold processNR
  simp only [State.validNR_iff, hn, hc]
  split_ifs with h
  · exact repeat_ackOne_ring_congr _ s t hr he
  · exact hr

end Sys2Proof.Machine
end

