-- ==== Sys2Proof/Laws/Ring.lean ====
section
/-! SUPPORT. The ring as a list: ring order has no repeats, and what each change of slots does to the occupied slots in ring
order. -/

namespace Sys2Proof.Machine

/-! ## Slots -/

/-- A slot after a change of slot `i`. -/
theorem State.slot_modSlot (s : State) (i j : Nat) (f : Slot → Slot) (h : i < s.ring.slots.length) :
    (s.modSlot i f).slot j = if j = i then f (s.slot i) else s.slot j := by
  simp only [State.slot, State.modSlot, State.modRing_ring, List.getD_eq_getElem?_getD, List.getElem?_modify]
  split_ifs with h1 h2 h2
  · subst h2; simp [List.getElem?_eq_getElem h]
  · exact absurd h1.symm h2
  · exact absurd h2.symm h1
  · simp

/-- A slot after a marking that a FREE slot does not meet. -/
theorem State.slot_markSlots (s : State) (p : Slot → Bool) (st : SlotState) (j : Nat) (h : p Slot.reset = false) :
    (s.markSlots p st).slot j = if p (s.slot j) = true then { s.slot j with state := st } else s.slot j := by
  simp only [State.slot, State.markSlots, State.modRing_ring, List.getD_eq_getElem?_getD, List.getElem?_map]
  cases s.ring.slots[j]? with
  | none => simp [h]
  | some x => simp

@[simp] theorem State.modSlot_slots_length (s : State) (i : Nat) (f : Slot → Slot) :
    (s.modSlot i f).ring.slots.length = s.ring.slots.length := by simp [State.modSlot]

@[simp] theorem State.markSlots_slots_length (s : State) (p : Slot → Bool) (st : SlotState) :
    (s.markSlots p st).ring.slots.length = s.ring.slots.length := by simp [State.markSlots]

/-! ## Ring order -/

/-- Ring order reads `head`, `count` and W only. -/
theorem State.ringOrder_congr (s t : State) (hh : t.ring.head = s.ring.head) (hc : t.ring.count = s.ring.count)
    (hw : t.eff.window = s.eff.window) : t.ringOrder = s.ringOrder := by
  have : t.ringIndex = s.ringIndex := by funext j; simp only [State.ringIndex, State.w, hh, hw]
  rw [State.ringOrder, State.ringOrder, this, hc]

@[simp] theorem State.modSlot_ringOrder (s : State) (i : Nat) (f : Slot → Slot) : (s.modSlot i f).ringOrder = s.ringOrder :=
  State.ringOrder_congr _ _ rfl rfl rfl

@[simp] theorem State.markSlots_ringOrder (s : State) (p : Slot → Bool) (st : SlotState) :
    (s.markSlots p st).ringOrder = s.ringOrder := State.ringOrder_congr _ _ rfl rfl rfl

theorem State.ringIndex_lt (s : State) (j : Nat) (h : 0 < s.w) : s.ringIndex j < s.w := Nat.mod_lt _ h

theorem State.w_lt (s : State) : s.w < 8 := s.eff.window.isLt

/-- Two places of the ring are two slots. -/
theorem State.ringIndex_inj (s : State) {j k : Nat} (hj : j < s.w) (hk : k < s.w) (h : s.ringIndex j = s.ringIndex k) :
    j = k := by
  have h1 : (s.ring.head.toNat + j) % s.w = (s.ring.head.toNat + k) % s.w := h
  have h2 : j % s.w = k % s.w := Nat.ModEq.add_left_cancel' s.ring.head.toNat h1
  rwa [Nat.mod_eq_of_lt hj, Nat.mod_eq_of_lt hk] at h2

/-- Ring order has no repeats. -/
theorem State.ringOrder_nodup (s : State) (h : s.ring.count.toNat ≤ s.w) : s.ringOrder.Nodup := by
  rw [State.ringOrder, List.nodup_map_iff_inj_on List.nodup_range]
  intro j hj k hk hjk
  rw [List.mem_range] at hj hk
  exact s.ringIndex_inj (by omega) (by omega) hjk

/-- A place of the ring is one of the W slots. -/
theorem State.ringOrder_lt (s : State) (h : s.ring.count.toNat ≤ s.w) {i : Nat} (hi : i ∈ s.ringOrder) : i < s.w := by
  obtain ⟨j, hj, rfl⟩ := List.mem_map.mp hi
  rw [List.mem_range] at hj
  exact s.ringIndex_lt j (by omega)

/-- The first slot with a property splits ring order. -/
theorem State.firstSlot_split (s : State) (p : Slot → Bool) (i : Nat) (h : s.firstSlot p = some i) :
    ∃ before after, s.ringOrder = before ++ i :: after ∧ p (s.slot i) = true ∧ ∀ j ∈ before, p (s.slot j) = false := by
  obtain ⟨h1, before, after, h2, h3⟩ := List.find?_eq_some_iff_append.mp h
  exact ⟨before, after, h2, h1, fun j hj => by simpa using h3 j hj⟩

/-- The first slot with a property, found from a split of ring order. -/
theorem State.firstSlot_of_split (s : State) (p : Slot → Bool) (i : Nat) {before after : List Nat}
    (h : s.ringOrder = before ++ i :: after) (hp : p (s.slot i) = true) (hb : ∀ j ∈ before, p (s.slot j) = false) :
    s.firstSlot p = some i :=
  List.find?_eq_some_iff_append.mpr ⟨hp, before, after, h, fun j hj => by simp [hb j hj]⟩

theorem State.firstSlot_none (s : State) (p : Slot → Bool) :
    s.firstSlot p = none ↔ ∀ i ∈ s.ringOrder, p (s.slot i) = false := by
  simp [State.firstSlot, List.find?_eq_none]

/-! ## The occupied slots under a change of one slot -/

/-- The occupied slots after a change of one of them. -/
theorem State.ringSlots_modSlot (s : State) (i : Nat) (f : Slot → Slot) {before after : List Nat}
    (h : s.ringOrder = before ++ i :: after) (hn : s.ringOrder.Nodup) (hi : i < s.ring.slots.length) :
    s.ringSlots = before.map s.slot ++ s.slot i :: after.map s.slot ∧
    (s.modSlot i f).ringSlots = before.map s.slot ++ f (s.slot i) :: after.map s.slot := by
  rw [h] at hn
  have hb : i ∉ before := fun hm => (List.nodup_append.mp hn).2.2 i hm i (by simp) rfl
  have ha : i ∉ after := (List.nodup_cons.mp (List.nodup_append.mp hn).2.1).1
  refine ⟨by simp [State.ringSlots, h], ?_⟩
  rw [State.ringSlots, State.modSlot_ringOrder, h, List.map_append, List.map_cons, s.slot_modSlot i i f hi, if_pos rfl]
  congr 1
  · apply List.map_congr_left
    intro j hj
    rw [s.slot_modSlot i j f hi, if_neg (by rintro rfl; exact hb hj)]
  · congr 1
    apply List.map_congr_left
    intro j hj
    rw [s.slot_modSlot i j f hi, if_neg (by rintro rfl; exact ha hj)]

/-- The occupied slots after a marking. -/
theorem State.ringSlots_markSlots (s : State) (p : Slot → Bool) (st : SlotState) (h : p Slot.reset = false) :
    (s.markSlots p st).ringSlots = s.ringSlots.map (fun x => if p x = true then { x with state := st } else x) := by
  simp only [State.ringSlots, State.markSlots_ringOrder, List.map_map]
  apply List.map_congr_left
  intro j _
  exact s.slot_markSlots p st j h

/-! ## Ranks -/

theorem Slot.isSent_iff_rank (x : Slot) : x.isSent = true ↔ x.rank = 1 := by
  rw [Slot.isSent_iff, Slot.rank]
  cases x.state <;> simp

theorem Slot.isFinished_iff_rank (x : Slot) : x.isFinished = true ↔ x.rank = 0 := by
  rw [Slot.isFinished_iff, Slot.rank]
  cases x.state <;> simp

theorem Slot.rank_queued (x : Slot) : x.state = .queued ↔ x.rank = 2 := by
  rw [Slot.rank]
  cases x.state <;> simp

theorem Slot.rank_free (x : Slot) : x.state = .free ↔ x.rank = 3 := by
  rw [Slot.rank]
  cases x.state <;> simp

theorem Slot.rank_le (x : Slot) : x.rank ≤ 3 := by
  rw [Slot.rank]
  cases x.state <;> simp

/-- The invariant gives what ring order needs. -/
theorem RingInv.nodup {s : State} (h : RingInv s) : s.ringOrder.Nodup := s.ringOrder_nodup h.countLeW

theorem RingInv.lt {s : State} (h : RingInv s) {i : Nat} (hi : i ∈ s.ringOrder) : i < s.ring.slots.length := by
  have := s.ringOrder_lt h.countLeW hi
  have := s.w_lt
  rw [h.seven]
  omega

/-- A slot that is not FREE stands in the ring. -/
theorem RingInv.mem {s : State} (h : RingInv s) {i : Nat} (hi : (s.slot i).state ≠ .free) : i ∈ s.ringOrder := by
  by_contra hn
  exact hi (h.freeOutside i hn)

/-! ## The invariant after a change -/

/-- The invariant from what it says of the occupied slots, where `head`, `count`, W and UNINIT are as before. -/
theorem RingInv.of_lists (s t : State) (h : RingInv s) (h7 : t.ring.slots.length = 7) (hh : t.ring.head = s.ring.head) (hc : t.ring.count = s.ring.count) (hw : t.eff.window = s.eff.window)
   (hf : t.fsm = .uninit ↔ s.fsm = .uninit)
   (hfree : ∀ i, (s.slot i).state = .free → (t.slot i).state = .free)
   (hocc : ∀ x ∈ t.ringSlots, x.state ≠ .free)
   (hord : (t.ringSlots.map Slot.rank).Pairwise (· ≤ ·))
   (hnum : t.fsm = .connected → (t.ringSlots.filter Slot.isSent).map Slot.seq = (List.range t.outstanding).map (fun j => t.win.confirmNs + BitVec.ofNat 3 j)) : RingInv t := by
  have ho := State.ringOrder_congr s t hh hc hw
  have hww : t.w = s.w := by simp [State.w, hw]
  exact { seven := h7
          noWindow := fun hu => hww ▸ h.noWindow (hf.mp hu)
          headInW := fun hu => by rw [hh, hww]; exact h.headInW (fun e => hu (hf.mpr e))
          countLeW := by rw [hc, hww]; exact h.countLeW
          freeOutside := fun i hi => hfree i (h.freeOutside i (ho ▸ hi))
          occupied := hocc
          ordered := hord
          numbered := hnum }

/-- The invariant where the ring, W and the window's two ends are as before. -/
theorem RingInv.of_same_ring (s t : State) (h : RingInv s) (hr : t.ring = s.ring) (hw : t.eff.window = s.eff.window) (hn : t.win.nextNs = s.win.nextNs) (hc : t.win.confirmNs = s.win.confirmNs)
   (hf : t.fsm = .uninit ↔ s.fsm = .uninit) (hf2 : t.fsm = .connected → s.fsm = .connected) : RingInv t := by
  have hs : t.slot = s.slot := by funext i; simp [State.slot, hr]
  have ho := State.ringOrder_congr s t (by rw [hr]) (by rw [hr]) hw
  have hrs : t.ringSlots = s.ringSlots := by simp [State.ringSlots, hs, ho]
  have hou : t.outstanding = s.outstanding := by simp [State.outstanding, hn, hc]
  refine RingInv.of_lists s t h (by rw [hr]; exact h.seven) (by rw [hr]) (by rw [hr]) hw hf (by rw [hs]; simp) ?_ ?_ ?_
  · rw [hrs]; exact h.occupied
  · rw [hrs]; exact h.ordered
  · rw [hrs, hou, hc]; exact fun hx => h.numbered (hf2 hx)

/-- What a sorted ring says of the slots before and after one of its slots. -/
theorem ranks_split {B A : List Slot} {x : Slot} (h : ((B ++ x :: A).map Slot.rank).Pairwise (· ≤ ·)) :
   (B.map Slot.rank).Pairwise (· ≤ ·) ∧ (A.map Slot.rank).Pairwise (· ≤ ·) ∧ (∀ b ∈ B, b.rank ≤ x.rank) ∧ (∀ a ∈ A, x.rank ≤ a.rank) ∧ (∀ b ∈ B, ∀ a ∈ A, b.rank ≤ a.rank) := by
  simp only [List.map_append, List.map_cons, List.pairwise_append, List.pairwise_cons, List.mem_map, List.mem_cons] at h
  obtain ⟨h1, ⟨h2, h3⟩, h4⟩ := h
  refine ⟨h1, h3, ?_, ?_, ?_⟩
  · intro b hb; exact h4 _ ⟨b, hb, rfl⟩ _ (.inl rfl)
  · intro a ha; exact h2 _ ⟨a, ha, rfl⟩
  · intro b hb a ha; exact h4 _ ⟨b, hb, rfl⟩ _ (.inr ⟨a, ha, rfl⟩)
/-- A ring is sorted again where one of its slots has changed. -/
theorem ranks_join {B A : List Slot} {x : Slot} (h1 : (B.map Slot.rank).Pairwise (· ≤ ·)) (h2 : (A.map Slot.rank).Pairwise (· ≤ ·)) (h3 : ∀ b ∈ B, b.rank ≤ x.rank) (h4 : ∀ a ∈ A, x.rank ≤ a.rank) (h5 : ∀ b ∈ B, ∀ a ∈ A, b.rank ≤ a.rank) :
   ((B ++ x :: A).map Slot.rank).Pairwise (· ≤ ·) := by
  simp only [List.map_append, List.map_cons, List.pairwise_append, List.pairwise_cons, List.mem_map, List.mem_cons]
  refine ⟨h1, ⟨?_, h2⟩, ?_⟩
  · rintro _ ⟨a, ha, rfl⟩; exact h4 a ha
  · rintro _ ⟨b, hb, rfl⟩ _ (rfl | ⟨a, ha, rfl⟩)
    · exact h3 b hb
    · exact h5 b hb a ha

/-- A change of one occupied slot that keeps its place and its number. -/
theorem RingInv.modSlot (s : State) (i : Nat) (f : Slot → Slot) (h : RingInv s) (hi : i ∈ s.ringOrder)
    (hr : (f (s.slot i)).rank = (s.slot i).rank) (hs : (f (s.slot i)).seq = (s.slot i).seq) : RingInv (s.modSlot i f) := by
  obtain ⟨B, A, hs1⟩ := List.append_of_mem hi
  have hlt := h.lt hi
  obtain ⟨e1, e2⟩ := s.ringSlots_modSlot i f hs1 h.nodup hlt
  have ho := h.occupied; have hd := h.ordered
  rw [e1] at ho hd
  have hsent : (f (s.slot i)).isSent = (s.slot i).isSent := by
    rw [Bool.eq_iff_iff, Slot.isSent_iff_rank, Slot.isSent_iff_rank, hr]
  refine RingInv.of_lists s _ h (by simp [h.seven]) rfl rfl rfl Iff.rfl ?_ ?_ ?_ ?_
  · intro j hj; rw [s.slot_modSlot i j f hlt]; split
    · next e => subst e; rw [Slot.rank_free, hr, ← Slot.rank_free]; exact hj
    · exact hj
  · rw [e2]; intro x hx
    simp only [List.mem_append, List.mem_cons] at hx ho
    rcases hx with hx | rfl | hx
    · exact ho _ (.inl hx)
    · intro e; rw [Slot.rank_free, hr, ← Slot.rank_free] at e; exact ho _ (.inr (.inl rfl)) e
    · exact ho _ (.inr (.inr hx))
  · rw [e2]; obtain ⟨a, b, c, d, e⟩ := ranks_split hd
    exact ranks_join a b (by rwa [hr]) (by rwa [hr]) e
  · intro hx; have := h.numbered hx
    rw [e2]; rw [e1] at this
    simp only [List.filter_append, List.filter_cons, hsent, List.map_append] at this ⊢
    show _ = (List.range s.outstanding).map (fun j => s.win.confirmNs + BitVec.ofNat 3 j)
    rw [← this]
    congr 1
    split <;> simp [hs]

/-- A marking outside CONNECTED that keeps the order. -/
theorem RingInv.markSlots (s : State) (p : Slot → Bool) (st : SlotState) (h : RingInv s) (hp : ∀ x, p x = true → x.state ≠ .free) (hst : st ≠ .free)
    (hord : ∀ x y : Slot, x.rank ≤ y.rank → (if p x then {x with state := st} else x : Slot).rank ≤ (if p y then {y with state := st} else y : Slot).rank) (hf : s.fsm ≠ .connected) : RingInv (s.markSlots p st) := by
  have hpr : p Slot.reset = false := by by_contra hx; exact hp _ (by simpa using hx) rfl
  refine RingInv.of_lists s _ h (by simp [h.seven]) rfl rfl rfl Iff.rfl ?_ ?_ ?_ ?_
  · intro j hj; rw [s.slot_markSlots p st j hpr]; split
    · next e => exact absurd hj (hp _ e)
    · exact hj
  · rw [s.ringSlots_markSlots p st hpr]; intro x hx
    obtain ⟨y, hy, rfl⟩ := List.mem_map.mp hx
    split
    · exact hst
    · exact h.occupied y hy
  · rw [s.ringSlots_markSlots p st hpr, List.map_map]
    have := h.ordered
    rw [List.pairwise_map] at this ⊢
    exact this.imp (fun {a b} hab => hord a b hab)
  · intro hx; exact absurd hx hf

/-- The place of a slot after FailPending. -/
theorem Slot.rank_failPending (x : Slot) : (if x.isPending then {x with state := .failed} else x : Slot).rank = if x.rank = 1 ∨ x.rank = 2 then 0 else x.rank := by
  cases hx : x.state <;> simp [Slot.isPending, Slot.rank, hx]
/-- The place of a slot after ResetSeq. -/
theorem Slot.rank_failSent (x : Slot) : (if x.isSent then {x with state := .failed} else x : Slot).rank = if x.rank = 1 then 0 else x.rank := by
  cases hx : x.state <;> simp [Slot.isSent, Slot.rank, hx]
/-- The place of a slot after Rewind. -/
theorem Slot.rank_rewound (x : Slot) : (if x.isSent then {x with state := .queued} else x : Slot).rank = if x.rank = 1 then 2 else x.rank := by
  cases hx : x.state <;> simp [Slot.isSent, Slot.rank, hx]

/-- One more number is outstanding. -/
theorem outstanding_next (a b : Sys2Proof.Seq) (h : (a - b).toNat < 7) : (a + 1 - b).toNat = (a - b).toNat + 1 := by
  revert a b; decide
/-- The number after the outstanding ones. -/
theorem confirm_add_outstanding (a b : Sys2Proof.Seq) : b + BitVec.ofNat 3 (a - b).toNat = a := by revert a b; decide

/-- ResetSeq and EnterConnected keep the invariant. -/
theorem RingInv.connect (s : State) (h : RingInv s) (hu : s.fsm ≠ .uninit) : RingInv (enterConnected (resetSeq s)) := by
  have e : (enterConnected (resetSeq s)).ring = (s.markSlots Slot.isSent .failed).ring := rfl
  have h0 : Slot.isSent Slot.reset = false := rfl
  have hrs : (enterConnected (resetSeq s)).ringSlots = s.ringSlots.map (fun x => if x.isSent = true then { x with state := .failed } else x) := by
    rw [← s.ringSlots_markSlots _ _ h0]; rfl
  refine RingInv.of_lists s _ h (by rw [e]; simp [h.seven]) rfl rfl rfl (by simp [hu]) ?_ ?_ ?_ ?_
  · intro j hj
    show ((s.markSlots Slot.isSent .failed).slot j).state = .free
    rw [s.slot_markSlots _ _ j h0]; split
    · next e => rw [Slot.isSent_iff] at e; rw [hj] at e; simp at e
    · exact hj
  · rw [hrs]; intro x hx
    obtain ⟨y, hy, rfl⟩ := List.mem_map.mp hx
    split
    · simp
    · exact h.occupied y hy
  · rw [hrs, List.map_map]
    have := h.ordered
    rw [List.pairwise_map] at this ⊢
    refine this.imp (fun {a b} hab => ?_)
    simp only [Function.comp, Slot.rank_failSent]; split <;> split <;> omega
  · intro _
    rw [hrs]
    have : (List.map (fun x => if x.isSent = true then ({ x with state := .failed } : Slot) else x) s.ringSlots).filter Slot.isSent = [] := by
      rw [List.filter_eq_nil_iff]; intro x hx
      obtain ⟨y, hy, rfl⟩ := List.mem_map.mp hx
      split
      · simp [Slot.isSent]
      · next e => exact e
    rw [this]
    have : (enterConnected (resetSeq s)).outstanding = 0 := by simp [State.outstanding]
    rw [this]; rfl

end Sys2Proof.Machine
end

