-- ==== Sys2Proof/Tests/Slice0.lean ====
section
/-! SUPPORT. Tests. The expected values are those of spec/95_test_vectors.md, cited by section, or are worked by hand from the
rule cited. -/

namespace Sys2Proof.Tests

set_option Elab.async false

open Sys2Proof.Machine

/-! ## Small states -/

/-- Parameters for the tests: MTU_MAX 1024, BUF_BYTES 100000, SLOT_OVERHEAD 8, FIXED_OVERHEAD 32, N_APP 2. -/
def params : Params := ⟨1023, 100000, 8, 32, 1⟩

/-- The block after reset, with those parameters. -/
def off : State := { State.reset with params := params, apps := [Port.reset, Port.reset] }

/-- CFG-A (95_test_vectors.md §0). -/
def cfgA : Cfg := ⟨16, 2, 0x10, 1000, 100, 2, 0, 0, false⟩

/-- A session in DISCONNECTED, right after INIT with CFG-A. -/
def up : State := freshSession { off with cfg := cfgA }

/-- The session CONNECTED. -/
def linked : State := { up with fsm := .connected }

/-- The micro-step is at port `p`, at time `now`. -/
def on (p : PortId) (now : Time) (s : State) : State := { s with port := p, now := now }

/-- The schedule lets `p` run next, at time `now`. -/
def ticked (p : PortId) (now : Time) (s : State) : State := { s with ticks := [⟨now, .run p⟩] }

/-- A slot with a one-byte payload. -/
def slotOf (x : SlotState) (seq : Seq) (retries : BitVec 8) (sentAt : Time) (b : Byte) : Slot := ⟨x, seq, retries, 1, sentAt, [(0, b)]⟩

/-- A ring of `W = w` from `head`, its slots as listed. -/
def withRing (w : BitVec 3) (head count : BitVec 3) (slots : List Slot) (s : State) : State :=
  { s with
    eff := { s.eff with window := w }
    ring := ⟨head, count, slots ++ List.replicate (7 - slots.length) Slot.reset⟩ }

/-- RxBuf holds the frame with this interior. -/
def received (interior : List Byte) (s : State) : State :=
  { s with dec := ⟨.reading, BitVec.ofNat 16 interior.length, false, memWrite [] 0 interior⟩ }

/-- What `f` sees of a next state. -/
def after {α : Type} (o : Host.Outcome State Fault Refusal) (f : State → α) : Option α :=
  match o with
  | .next t => some (f t)
  | .fault _ => none
  | .refused _ => none

/-- The next state, where there is one. -/
def next (o : Host.Outcome State Fault Refusal) : State :=
  match o with
  | .next t => t
  | .fault _ => off
  | .refused _ => off

/-- The last response of APP 0. -/
def answer (s : State) : Option Response := (s.apps.headD Port.reset).responses.getLast?

/-! ## WellFormed -/

theorem test_wf_rxPut_too_long : (Instr.rxPut (List.replicate 65536 0)).wf = false := by
  show decide ((List.replicate 65536 (0 : Byte)).length < 65536) = false
  rw [List.length_replicate]; decide
theorem test_wf_rxPut_longest : (Instr.rxPut (List.replicate 65535 0)).wf = true := by
  show decide ((List.replicate 65535 (0 : Byte)).length < 65536) = true
  rw [List.length_replicate]; decide
theorem test_wf_sendPacket_too_long : (Instr.sendPacket (List.replicate 65536 0)).wf = false := by
  show decide ((List.replicate 65536 (0 : Byte)).length < 65536) = false
  rw [List.length_replicate]; decide
theorem test_wf_sendPacket_longest : (Instr.sendPacket (List.replicate 65535 0)).wf = true := by
  show decide ((List.replicate 65535 (0 : Byte)).length < 65536) = true
  rw [List.length_replicate]; decide
theorem test_wf_uReserved_assigned :
    (Instr.uReserved 0b001011).wf = false ∧ (Instr.uReserved 0b011000).wf = false ∧
    (Instr.uReserved 0b010000).wf = false ∧ (Instr.uReserved 0b100001).wf = false ∧ (Instr.uReserved 0b000000).wf = true := by decide

/-! ## Decoding: a word of each row, from R131, R132, R141–R143 and 95_test_vectors.md §2.3, §2.8 -/

theorem test_decode_init : decodeRequest ⟨0b00000000000000000000000000000001#32, 0, []⟩ = .ok .init := rfl
theorem test_decode_close : decodeRequest ⟨0b00000000000000000000000000000010#32, 0, []⟩ = .ok .close := rfl
theorem test_decode_status : decodeRequest ⟨0b00000000000000000000000000000011#32, 0, []⟩ = .ok .status := rfl
theorem test_decode_disconnect : decodeRequest ⟨0b00000000000000000000000000000100#32, 0, []⟩ = .ok .disconnect := rfl
theorem test_decode_txGet : decodeRequest ⟨0b00000000010000000000000000000101#32, 0, []⟩ = .ok (.txGet 64) := rfl
theorem test_decode_rxPut :
    decodeRequest ⟨0b00000000000000110000000000000110#32, 0, [0x41, 0x42, 0x7E]⟩ = .ok (.rxPut [0x41, 0x42, 0x7E]) := rfl
theorem test_decode_sendPacket :
    decodeRequest ⟨0b00000000000000100000000000000111#32, 0, [0x68, 0x69]⟩ = .ok (.sendPacket [0x68, 0x69]) := rfl
theorem test_decode_getMtu : decodeRequest ⟨0b00000000000000000000000000001000#32, 0, []⟩ = .ok .getMtu := rfl
theorem test_decode_setKaTimeout :
    decodeRequest ⟨0b00000000000000000000000000001001#32, 0x64, []⟩ = .ok (.setKaTimeout 100) := rfl
theorem test_decode_bufferSize :
    decodeRequest ⟨0b00000000000100000000001000001010#32, 0x10, []⟩ = .ok (.bufferSize 16 2 0x10) := rfl
theorem test_decode_readReg : decodeRequest ⟨0b00000000000000000010000000001011#32, 0, []⟩ = .ok (.readReg 0x20) := rfl
theorem test_decode_writeReg : decodeRequest ⟨0b00000000000000000000010000001100#32, 0x64, []⟩ = .ok (.writeReg 4 100) := rfl
/-- A host pseudo-operation has no encoding (R147), and a port takes it as it stands. -/
theorem test_decode_pseudo :
    encode (.runTx [4]) = none ∧ encode (.runRx [[1]]) = none ∧ encode (.send [1]) = none ∧
    decodeOp (.runTx [4]) = some (.runTx [4]) ∧ decodeOp (.runRx [[1]]) = some (.runRx [[1]]) ∧
    decodeOp (.send [1]) = some (.send [1]) := by decide
theorem test_decode_iFrame : decodeCtrl 0b10100110#8 = .iFrame 3 false 5 ∧ decodeCtrl 0b11111110#8 = .iFrame 7 true 7 := by decide
theorem test_decode_rr : decodeCtrl 0b00010001#8 = .rr true 0 ∧ decodeCtrl 0b00100001#8 = .rr false 1 := by decide
theorem test_decode_rej : decodeCtrl 0b00110101#8 = .rej true 1 ∧ decodeCtrl 0b00000101#8 = .rej false 0 := by decide
theorem test_decode_rnr : decodeCtrl 0b01101001#8 = .rnr false 3 ∧ decodeCtrl 0b00001001#8 = .rnr false 0 := by decide
theorem test_decode_sReserved : decodeCtrl 0b00001101#8 = .sReserved false 0 ∧ decodeCtrl 0b11111101#8 = .sReserved true 7 := by
  decide
theorem test_decode_assigned_u :
    decodeCtrl 0b00101111#8 = .sabm ∧ decodeCtrl 0b01100011#8 = .ua ∧ decodeCtrl 0b01000011#8 = .disc ∧
    decodeCtrl 0b10000111#8 = .frmr := by decide
theorem test_decode_uReserved :
    decodeCtrl 0b00111111#8 = .uReserved 0b001111 ∧ decodeCtrl 0b00000011#8 = .uReserved 0 ∧
    decodeCtrl 0b01110011#8 = .uReserved 0b011100 ∧ decodeCtrl 0b00001111#8 = .uReserved 0b000011 := by decide
/-- §2.8.12, §2.8.13, §2.8.21: a reserved OPC, a nonzero unused field, a DIN of the wrong length. -/
theorem test_decode_malformed :
    decodeRequest ⟨0x0000000D, 0, []⟩ = .error (.reservedOpcode 0x0D) ∧
    decodeRequest ⟨0x00010003, 0, []⟩ = .error .unusedField ∧
    decodeRequest ⟨0x00070006, 0, [0, 0, 0, 0, 0, 0]⟩ = .error .dinLength := ⟨rfl, rfl, rfl⟩
/-- BuildCtrl (§2.3). -/
theorem test_buildCtrl :
    ctrlI 7 false 2 = 0x4E ∧ ctrlI 7 true 7 = 0xFE ∧ ctrlS 0b00 true 0 = 0x11 ∧ ctrlS 0b01 true 3 = 0x75 ∧
    ctrlS 0b10 true 3 = 0x79 ∧ ctrlU 0b011000 = 0x63 := by decide
/-- Command words (§2.8). -/
theorem test_makeCw :
    makeCw 0x05 0 64 = 0x00400005 ∧ makeCw 0x0A 2 16 = 0x0010020A ∧ makeCw 0x0B 0x20 0 = 0x0000200B := by decide

/-! ## CRC and stuffing (§2.1, §2.2) -/

theorem test_crc8 : crc8 [0xFF, 0x2F] = 0xCD ∧ crc8 [] = 0xFF ∧ crc8 [0xFF, 0x00, 0x68, 0x69] = 0x45 := by decide +kernel
theorem test_crc16 : crc16 [0xFF, 0x2F] = 0xCB7D ∧ crc16 [] = 0xFFFF ∧ crc16 [0xFF, 0x00, 0x68, 0x69] = 0xB06F := by decide +kernel
theorem test_crc32 : crc32 [0xFF, 0x2F] = 0x792CD2D4 ∧ crc32 [] = 0 := by decide +kernel
theorem test_crcBytes :
    crcBytes .crc16 [0xFF, 0x2F] = [0x7D, 0xCB] ∧ crcBytes .crc32 [0xFF, 0x2F] = [0xD4, 0xD2, 0x2C, 0x79] ∧
    crcBytes .none [0xFF, 0x2F] = [] := by decide +kernel
theorem test_stuff :
    stuff [0xFF, 0x2F, 0x7D, 0xCB] = [0xFF, 0x2F, 0x7D, 0x5D, 0xCB] ∧
    stuff [0xFF, 0x7E, 0x7D] = [0xFF, 0x7D, 0x5E, 0x7D, 0x5D] ∧ stuff [0x5E, 0x5D] = [0x5E, 0x5D] := by decide +kernel

/-! ## One step of each instruction -/

/-- §2.8.3: INIT with CFG-A. -/
theorem test_init :
    after (exec .init (on (.app 0) 0 { off with cfg := cfgA })) (fun t => (t.stateReg, t.readRegister 0x12, answer t)) =
      some (0x00000001, some 0x00000210, some ⟨0, []⟩) := by decide +kernel
/-- §2.8.2: INIT with the reset values of CFG. -/
theorem test_init_illegal :
    after (exec .init (on (.app 0) 0 off)) (fun t => (t.stateReg, answer t)) = some (0, some ⟨-1, []⟩) := by decide +kernel
/-- §2.8.25: CLOSE, phase 1. Bits 3 to 0 of STATE are 0xB; its bit 4 follows R139 (log 24). -/
theorem test_close :
    after (exec .close (on (.app 0) 0 { linked with ctr := { linked.ctr with failGen := 4 } }))
      (fun t => (t.stateReg &&& 0xF, t.ctr.failGen)) = some (0x0000000B, 5) := by decide +kernel
/-- §2.8.26: CLOSE, phase 2. -/
theorem test_close_phase2 :
    after (step (ticked (.app 0) 0 (withRing 3 0 3
        [slotOf .acked 0 2 0 0x61, slotOf .awaitingAck 1 2 0 0x62, slotOf .queued 0 2 0 0x63]
        { linked with closing := true, apps := [{ Port.reset with cmd := .close }, Port.reset] })))
      (fun t => (t.stateReg, (t.apps.headD Port.reset).events, answer t)) =
    some (0, [.sent .ok 0xFF [0x61], .sent .failed 0xFF [0x62], .sent .failed 0xFF [0x63]], some ⟨0, []⟩) := by decide +kernel
/-- §2.8.1: STATUS with no session. -/
theorem test_status_uninit : after (exec .status (on (.app 0) 0 off)) answer = some (some ⟨-4, []⟩) := by decide +kernel
/-- §2.6.10: STATUS in CONNECTING. -/
theorem test_status_connecting :
    after (exec .status (on (.app 0) 0 { up with fsm := .connecting })) answer = some (some ⟨-1, []⟩) := by decide +kernel
/-- §2.6.8: DISCONNECT, and a second one. -/
theorem test_disconnect :
    after (exec .disconnect (on (.app 0) 0 linked)) (fun t => (t.fsm, t.flag.discPending, answer t)) =
      some (.disconnecting, true, some ⟨0, []⟩) := by decide +kernel
theorem test_disconnect_busy :
    after (exec .disconnect (on (.app 0) 0 { up with fsm := .disconnecting })) answer = some (some ⟨-5, []⟩) := by decide +kernel
/-- §2.6.1, with R443: the prologue of the first TX_GET after INIT enters CONNECTING. -/
theorem test_txGet :
    after (exec (.txGet 64) (on .txp 0 up)) (fun t => (t.stateReg, t.readRegister 0x22)) = some (2, some 0x00000200) := by
  decide +kernel
/-- §2.2: the SABM frame, one byte for each call of EncodeStep. -/
theorem test_sabm_frame :
    (encodeSteps 7 (timerPhase up)).2 = [0x7E, 0xFF, 0x2F, 0x7D, 0x5D, 0xCB, 0x7E] := by decide +kernel
/-- §2.2 "valid I": DecodeByte over a whole frame, from a decoder in READING. -/
theorem test_rxPut_frame :
    (decodeBytes [0xFF, 0x00, 0x68, 0x69, 0x6F, 0xB0, 0x7E] (received [] linked)).rxp.events = [.frame 0xFF [0x68, 0x69]] ∧
    (decodeBytes [0xFF, 0x00, 0x68, 0x69, 0x6F, 0xB0, 0x7E] (received [] linked)).seqReg = 0x00080100 := by decide +kernel
/-- §2.2 "bad CRC", "wrong address" and "abort". -/
theorem test_rxPut_drops :
    (decodeBytes [0xFF, 0x00, 0x68, 0x69, 0x6F, 0xB1, 0x7E] (received [] linked)).rxp.events = [.framerError] ∧
    (decodeBytes [0xFE, 0x63, 0x04, 0x71, 0x7E] (received [] linked)).rxp.events = [] ∧
    (decodeBytes [0xFF, 0x00, 0x68, 0x7D, 0x7E] (received [] linked)).rxp.events = [] := by decide +kernel
/-- §2.8.19: a payload of 17 bytes with `mtu` 16. -/
theorem test_sendPacket_too_large :
    after (exec (.sendPacket (List.replicate 17 0)) (on (.app 0) 0 linked)) answer = some (some ⟨-3, []⟩) := by decide +kernel
/-- §2.8.23: the deadline of a held SEND_PACKET. -/
theorem test_sendPacket_timeout :
    after (step (ticked (.app 0) 1000 (withRing 2 0 2 [slotOf .queued 0 2 0 1, slotOf .queued 0 2 0 2]
      { linked with apps := [{ Port.reset with cmd := .sendPacket [3] 0 0 }, Port.reset] }))) answer = some (some ⟨-2, []⟩) := by
  decide +kernel
/-- §2.8.18. -/
theorem test_getMtu : after (exec .getMtu (on (.app 0) 0 up)) answer = some (some ⟨16, []⟩) := by decide +kernel
theorem test_setKaTimeout :
    after (exec (.setKaTimeout 100) (on (.app 0) 0 up)) (fun t => (t.eff.kaTimeout, answer t)) = some (100, some ⟨0, []⟩) := by
  decide +kernel
/-- §2.8.14, §2.8.17: 60 + 2 · 8 + 32, and 18 + 8 + 18 + 32. -/
theorem test_bufferSize :
    after (exec (.bufferSize 16 2 0x10) (on (.app 0) 0 off)) answer = some (some ⟨108, []⟩) ∧
    after (exec (.bufferSize 16 1 0xFF) (on (.app 0) 0 off)) answer = some (some ⟨76, []⟩) := by decide +kernel
/-- §2.8.15. -/
theorem test_bufferSize_illegal :
    after (exec (.bufferSize 16 0 0x10) (on (.app 0) 0 off)) answer = some (some ⟨-4, []⟩) := by decide +kernel
/-- §2.8.30, §2.8.11. -/
theorem test_readReg :
    after (exec (.readReg 0x24) (on (.app 0) 0 { up with ctr := { up.ctr with crcErrCnt := 1 } })) answer =
      some (some ⟨0, [1, 0, 0, 0]⟩) ∧
    after (exec (.readReg 0x0F) (on (.app 0) 0 up)) answer = some (some ⟨-4, []⟩) := by decide +kernel
/-- §0: STATE = 0x00000013 is DOUT `13 00 00 00`. -/
theorem test_readReg_state :
    after (exec (.readReg 0x20) (on (.app 0) 0 linked)) answer = some (some ⟨0, [0x13, 0, 0, 0]⟩) := by decide +kernel
/-- §2.8.9. -/
theorem test_writeReg :
    after (exec (.writeReg 0x01 9) (on (.app 0) 0 off)) (fun t => (t.readRegister 0x01, answer t)) =
      some (some 1, some ⟨0, []⟩) := by decide +kernel
/-- §2.8.10. -/
theorem test_writeReg_readOnly :
    after (exec (.writeReg 0x20 1) (on (.app 0) 0 off)) (fun t => (t.stateReg, answer t)) = some (0, some ⟨-4, []⟩) := by
  decide +kernel
/-- R490: RUN_TX writes 3 of its 4 bytes, the answer of `write_fn` is 3, and it goes on with the last byte. -/
theorem test_runTx :
    after (exec (.runTx [3]) (on .txp 0 linked)) (fun t => t.txp.proc) = some (some (.runTxGet 0 [3])) ∧
    after (step (ticked .txp 0 { linked with txp := { Port.reset with proc := some (.runTxWrite 0 [3] [1, 2, 3, 4]) } }))
      (fun t => t.txp.proc) = some (some (.runTxWrite 3 [] [4])) := by decide +kernel
/-- R491: RUN_RX gives its bytes to RX_PUT, and stops at an error with the total. -/
theorem test_runRx :
    after (exec (.runRx [[0x7E]]) (on .rxp 0 linked)) (fun t => t.rxp.proc) = some (some (.runRxRead 0 [[0x7E]])) ∧
    after (step (ticked .rxp 0 { linked with rxp := { Port.reset with proc := some (.runRxRead 0 [[0x7E]]) } }))
      (fun t => t.rxp.cmd) = some (.rxPut [0x7E]) ∧
    after (step (ticked .rxp 0 { linked with rxp := { Port.reset with proc := some (.runRxRead 5 [[]]) } }))
      (fun t => t.rxp.responses) = some [⟨5, []⟩] := by decide +kernel
/-- §2.8 "SEND": 40 bytes with `mtu` 16; after two fragments the third times out and SEND returns 32. -/
theorem test_send :
    after (step (ticked (.app 0) 0 { linked with apps :=
      [{ Port.reset with proc := some (.sendLoop (List.replicate 40 7) 16 32) }, Port.reset] }))
      (fun t => (t.apps.headD Port.reset).cmd) = some (.sendPacket (List.replicate 8 7) 0 0) ∧
    after (step (ticked (.app 0) 0 { linked with apps :=
      [{ Port.reset with proc := some (.sendWait (List.replicate 40 7) 16 32 8), reply := some ⟨-2, []⟩ }, Port.reset] }))
      answer = some (some ⟨32, []⟩) := by decide +kernel
/-- §2.5.2. -/
theorem test_iFrame :
    after (exec (.iFrame 0 true 0) (received [0xFF, 0x10, 0x61, 0x0B, 0x7C] linked)) (fun t => (t.rxp.events, t.seqReg)) =
      some ([.frame 0xFF [0x61]], 0x00180100) := by decide +kernel
/-- §2.5.3. -/
theorem test_iFrame_gap :
    after (exec (.iFrame 2 false 0) (received [0xFF, 0x04, 0x63, 0xFE, 0x93] { linked with win := ⟨0, 0, 1, 0⟩ }))
      (fun t => (t.rxp.events, t.flag.rejSent, t.flag.rejOwed, t.win.nextNr)) = some ([], true, true, 1) := by decide +kernel
/-- Three sent slots numbered 0, 1, 2. -/
def threeSent : State :=
  withRing 7 0 3 [slotOf .awaitingAck 0 2 0 1, slotOf .awaitingAck 1 2 0 2, slotOf .awaitingAck 2 2 0 3]
    { linked with win := ⟨3, 0, 0, 0⟩ }
/-- §2.4.11 and §2.4.12, through RR. -/
theorem test_rr :
    after (exec (.rr false 2) (received [0xFF, 0x41, 0, 0] threeSent)) (fun t => (t.ring.slots.map Slot.state, t.win.confirmNs)) =
      some ([.acked, .acked, .awaitingAck, .free, .free, .free, .free], 2) ∧
    after (exec (.rr false 4) (received [0xFF, 0x81, 0, 0] threeSent)) (fun t => (t.ring.slots.map Slot.state, t.win.confirmNs)) =
      some ([.awaitingAck, .awaitingAck, .awaitingAck, .free, .free, .free, .free], 0) := by decide +kernel
/-- §2.5.5. -/
theorem test_rej :
    after (exec (.rej false 1) (received [0xFF, 0x25, 0x37, 0x6A]
        (withRing 2 0 2 [slotOf .awaitingAck 0 2 0 1, slotOf .awaitingAck 1 2 0 2] { linked with win := ⟨2, 0, 0, 0⟩ })))
      (fun t => ((t.ring.slots.take 2).map Slot.state, t.win.confirmNs, t.win.nextNs)) =
    some ([.acked, .queued], 1, 1) := by decide +kernel
/-- §2.4.14. -/
theorem test_rnr :
    after (exec (.rnr false 0) (received [0xFF, 0x09, 0xD9, 0x8F] linked)) (fun t => t.seqReg) = some 0x00010000 := by
  decide +kernel
/-- §2.3: the reserved S type, in CONNECTED and in CONNECTING. -/
theorem test_sReserved :
    after (exec (.sReserved false 0) (received [0xFF, 0x0D, 0x5D, 0xCF] linked)) (fun t => t.seqReg) = some 0x00200000 ∧
    after (exec (.sReserved false 0) (received [0xFF, 0x0D, 0x5D, 0xCF] { linked with fsm := .connecting })) (fun t => t.seqReg) =
      some 0 := by decide +kernel
/-- §2.4.16. -/
theorem test_sabm :
    after (exec .sabm (received [0xFF, 0x2F, 0x7D, 0xCB]
        (withRing 2 0 2 [slotOf .awaitingAck 0 2 0 1, slotOf .awaitingAck 1 2 0 2] { linked with win := ⟨2, 0, 0, 0⟩ })))
      (fun t => ((t.ring.slots.take 2).map Slot.state, t.ctr.failGen, t.flag.uaOwed, t.fsm)) =
    some ([.failed, .failed], 1, true, .connected) := by decide +kernel
/-- §2.6.7. -/
theorem test_sabm_disconnecting :
    after (exec .sabm (received [0xFF, 0x2F, 0x7D, 0xCB]
        (withRing 2 0 2 [slotOf .awaitingAck 4 2 0 1, slotOf .queued 0 2 0 2] { linked with fsm := .disconnecting, win := ⟨5, 4, 3, 3⟩ })))
      (fun t => ((t.ring.slots.take 2).map Slot.state, t.win, t.fsm)) =
    some ([.failed, .queued], ⟨0, 0, 0, 0⟩, .connected) := by decide +kernel
/-- §2.6.2. -/
theorem test_ua :
    after (exec .ua (on .rxp 1 (received [0xFF, 0x63, 0x35, 0x42] { up with fsm := .connecting })))
      (fun t => (t.stateReg, t.tim.lastTx)) = some (0x00000013, 1) := by decide +kernel
/-- §2.6.6. -/
theorem test_disc :
    after (exec .disc (on .rxp 2 (received [0xFF, 0x43, 0x57, 0x66] linked)))
      (fun t => (t.fsm, t.ctr.failGen, t.seqReg)) = some (.disconnected, 1, 0x00400000) := by decide +kernel
/-- §2.3. -/
theorem test_frmr :
    after (exec .frmr (received [0xFF, 0x87, 0x9F, 0xFF] linked)) (fun t => (t.fsm, t.seqReg)) = some (.connected, 0) := by
  decide +kernel
/-- R272, R363: the U octet 0x3F. -/
theorem test_uReserved :
    after (exec (.uReserved 0b001111) (received [0xFF, 0x3F, 0, 0] linked)) (fun t => t.seqReg) = some 0x00200000 := by
  decide +kernel

/-! ## Send queue and timers (§2.4, §2.7) -/

/-- §2.4.2. -/
theorem test_deliverCompletions :
    let s := deliverCompletions (withRing 3 0 3
      [slotOf .acked 0 2 0 0x61, slotOf .failed 1 2 0 0x62, slotOf .queued 0 2 0 0x63] linked)
    s.txp.events = [.sent .ok 0xFF [0x61], .sent .failed 0xFF [0x62]] ∧ s.ring.head = 2 ∧ s.ring.count = 1 := by decide +kernel
/-- §2.4.5. -/
theorem test_select_rej :
    let s := (selectFrame { linked with flag := { linked.flag with rejOwed := true, ackOwed := true }, win := ⟨0, 0, 1, 0⟩ }).1
    s.txFrame 2 = [0xFF, 0x25] ∧ s.flag.ackOwed = false ∧ s.win.lastNrSent = 1 := by decide +kernel
/-- §2.4.6. -/
theorem test_select_new :
    let s := (selectFrame (withRing 3 0 2 [slotOf .awaitingAck 6 2 0 1, slotOf .queued 0 2 0 0x78]
      { linked with win := ⟨7, 6, 2, 0⟩ })).1
    s.txFrame 3 = [0xFF, 0x4E, 0x78] ∧ s.win.nextNs = 0 := by decide +kernel
/-- §2.4.8. -/
theorem test_select_retx :
    let s := withRing 2 0 1 [slotOf .awaitingAck 0 2 1000 1]
      { linked with eff := { linked.eff with retryTimeout := 50 }, win := ⟨1, 0, 0, 0⟩ }
    (selectFrame (on .txp 1049 s)).2 = false ∧ (selectFrame (on .txp 1050 s)).2 = true ∧
    ((selectFrame (on .txp 1050 s)).1.slot 0).retriesLeft = 1 ∧ ((selectFrame (on .txp 1050 s)).1.slot 0).sentAt = 1050 := by
  decide +kernel
/-- §2.4.9. -/
theorem test_select_keepAlive :
    let s := (selectFrame (on .txp 600 { linked with eff := { linked.eff with kaTimeout := 100 }, tim := { linked.tim with lastTx := 500 } })).1
    s.txFrame 2 = [0xFF, 0x11] ∧ s.ctr.kaUnanswered = 1 := by decide +kernel
/-- §2.4.10. -/
theorem test_validNR :
    (List.range 8).filter (fun n => ({ linked with win := ⟨1, 6, 0, 0⟩ } : State).validNR (BitVec.ofNat 3 n)) = [0, 1, 6, 7] := by
  decide +kernel
/-- §2.7.5, §2.7.6, §2.7.7. -/
theorem test_init_timeouts :
    Cfg.initRetryTimeout { cfgA with retryTimeout := 0, retries := 3 } = 250 ∧
    Cfg.legal params { cfgA with retryTimeout := 0, sendTimeout := 2, retries := 3 } = false ∧
    Cfg.initAckDefer { cfgA with ackDefer := 80 } = 50 := by decide +kernel
/-- §2.7.8. -/
theorem test_expired : expired 0xFFFFFFF0 0x00000053 100 = false ∧ expired 0xFFFFFFF0 0x00000054 100 = true := by decide +kernel

/-! ## The first step after reset -/

/-- TX_GET 64, SEND_PACKET of no bytes and INIT run as the first instruction after reset: INVALID_DATA where there is no session
(R571), FAILED for INIT with the reset values of CFG (§2.8.2). -/
theorem test_first_step :
    after (step (State.reset.withFetchWord 32 0x00400005)) (fun t => t.txp.responses) = some [⟨-4, []⟩] ∧
    after (step (State.reset.withFetchWord 32 0x00000007)) (fun t => (t.port? (.app 0)).map Port.responses) =
      some (some [⟨-4, []⟩]) ∧
    after (step (State.reset.withFetchWord 32 0x00000001)) (fun t => t.txp.responses) = some [⟨-1, []⟩] := by decide +kernel
/-- A DISC octet runs as the first instruction: a UA is owed (R409). -/
theorem test_first_step_octet :
    after (step (State.reset.withFetchWord 8 0x43)) (fun t => (t.flag.uaOwed, t.rxp.responses)) = some (true, [⟨0, []⟩]) := by
  decide +kernel
theorem test_decodeTableWord :
    decodeTableWord 32 0x0010020A = some (.bufferSize 16 2 0) ∧ decodeTableWord 8 0xA6 = some (.iFrame 3 false 5) ∧
    decodeTableWord 32 0x00020007 = some (.sendPacket [0, 0]) ∧ decodeTableWord 32 0x0000000D = none := by decide +kernel

/-! ## Interiors beyond 65535 bytes (R43, R102, R243; log 6) -/

/-- A decoder that has stored 65536 + `n` bytes, with `mtu` 65535 and CRC-32: the capacity is 65541. -/
def stored (n : BitVec 16) : State :=
  { linked with
    eff := { linked.eff with mtu := 65535, crcCode := 0x20, crcLen := 4 }
    dec := ⟨.reading, n, true, []⟩ }

/-- Byte 65540 is the last one stored; the next one discards the frame. `dec_len` has the low 16 bits. -/
theorem test_decoder_capacity :
    (stored 4).rxCapacity = 65541 ∧
    (decodeByte 0x55 (stored 4)).dec = ⟨.reading, 5, true, [(65540, 0x55)]⟩ ∧
    (decodeByte 0x55 (stored 5)).dec = ⟨.hunt, 0, false, []⟩ ∧
    (stored 4).readRegister 0x23 = some 0x00040001 := by decide +kernel

/-! ## Witnesses: for each statement with hypotheses, a state and operands that meet them, for each clause -/

/-- TXP has this waiting, and runs next. -/
def asked (op : HostOp) (s : State) : State := ticked .txp 0 { s with txp := { Port.reset with queue := [op] } }

/-- TXP carries this command, and runs next at `now`. -/
def busyTx (c : Cmd) (now : Time) (s : State) : State := ticked .txp now { s with txp := { Port.reset with cmd := c } }

/-- RXP carries this command, and runs next. -/
def busyRx (c : Cmd) (s : State) : State := ticked .rxp 0 { s with rxp := { Port.reset with cmd := c } }

/-- APP 0 carries this command, and runs next at `now`. -/
def busyApp (c : Cmd) (now : Time) (s : State) : State :=
  ticked (.app 0) now { s with apps := [{ Port.reset with cmd := c }, Port.reset] }

/-- `p` runs this host procedure, which may have a response to read, and runs next. -/
def hosted (p : PortId) (pr : Proc) (reply : Option Response) (s : State) : State :=
  ticked p 0 (s.modPort p (fun _ => { Port.reset with proc := some pr, reply := reply }))

theorem malformed_reserved : Malformed ⟨0x0000000D, 0, []⟩ := by
  intro row h hf
  have h1 : ∀ row ∈ commandTable, row.opc ≠ 0x0D := by decide
  exact h1 row h (hf.opc.symm.trans rfl)

theorem witness_DecodeOfEncode :
    ((Instr.bufferSize 65535 255 255).wf = true ∧ encode (.bufferSize 65535 255 255) = some (.request ⟨0xFFFFFF0A, 0xFF, []⟩)) ∧
    ((Instr.iFrame 7 true 7).wf = true ∧ encode (.iFrame 7 true 7) = some (.octet 0xFE)) ∧
    ((Instr.uReserved 0b111111).wf = true ∧ encode (.uReserved 0b111111) = some (.octet 0xFF)) := by decide +kernel

theorem witness_EncodeOfDecode :
    decodeRequest ⟨0x0000FF0C, 0xFFFFFFFF, []⟩ = .ok (.writeReg 0xFF 0xFFFFFFFF) ∧ Malformed ⟨0x0000000D, 0, []⟩ ∧
    ∃ e, decodeRequest ⟨0x0000000D, 0, []⟩ = .error e := ⟨rfl, malformed_reserved, _, rfl⟩

theorem witness_ClassifyByBits :
    (0xFE#8).getLsbD 0 = false ∧
    ((0xE1#8).extractLsb' 0 2 = 0b01#2 ∧ (0xE1#8).extractLsb' 2 2 = 0b00#2) ∧
    ((0xE5#8).extractLsb' 0 2 = 0b01#2 ∧ (0xE5#8).extractLsb' 2 2 = 0b01#2) ∧
    ((0xE9#8).extractLsb' 0 2 = 0b01#2 ∧ (0xE9#8).extractLsb' 2 2 = 0b10#2) ∧
    ((0xFD#8).extractLsb' 0 2 = 0b01#2 ∧ (0xFD#8).extractLsb' 2 2 = 0b11#2) ∧
    ((0xFF#8).extractLsb' 0 2 = 0b11#2 ∧ (0xFF#8) ≠ 0x2F ∧ (0xFF#8) ≠ 0x63 ∧ (0xFF#8) ≠ 0x43 ∧ (0xFF#8) ≠ 0x87) := by
  decide +kernel

theorem witness_MalformedRequestRefused :
    ∃ s : State, ∃ p now rest q r l, RunsNext p now rest q s ∧ q.cmd = .idle ∧ q.proc = none ∧ q.queue = .request r :: l ∧ Malformed r :=
  ⟨asked (.request ⟨0x0000000D, 0, []⟩) off, .txp, 0, [], _, _, [], ⟨rfl, rfl⟩, rfl, rfl, rfl, malformed_reserved⟩

theorem witness_StepRunsDecoded :
    (∃ s : State, ∃ p now rest q l r i, RunsNext p now rest q s ∧ q.cmd = .idle ∧ q.proc = none ∧ q.queue = .request r :: l ∧
      decodeRequest r = .ok i) ∧
    (∃ s : State, ∃ p now rest q l ws, RunsNext p now rest q s ∧ q.cmd = .idle ∧ q.proc = none ∧ q.queue = .runTx ws :: l) ∧
    (∃ s : State, ∃ p now rest q l rs, RunsNext p now rest q s ∧ q.cmd = .idle ∧ q.proc = none ∧ q.queue = .runRx rs :: l) ∧
    (∃ s : State, ∃ p now rest q l b, RunsNext p now rest q s ∧ q.cmd = .idle ∧ q.proc = none ∧ q.queue = .send b :: l) ∧
    off.ticks = [] ∧
    (∃ s : State, ∃ p now rest q, RunsNext p now rest q s ∧ q.cmd = .idle ∧ q.proc = none ∧ q.queue = []) ∧
    (∃ s : State, ∃ p now rest q, RunsNext p now rest q s ∧ q.cmd ≠ .idle) :=
  ⟨⟨asked (.request ⟨0x00400005, 0, []⟩) up, .txp, 0, [], _, [], _, _, ⟨rfl, rfl⟩, rfl, rfl, rfl, rfl⟩,
   ⟨asked (.runTx [1]) up, .txp, 0, [], _, [], _, ⟨rfl, rfl⟩, rfl, rfl, rfl⟩,
   ⟨asked (.runRx [[1]]) up, .txp, 0, [], _, [], _, ⟨rfl, rfl⟩, rfl, rfl, rfl⟩,
   ⟨asked (.send [1]) up, .txp, 0, [], _, [], _, ⟨rfl, rfl⟩, rfl, rfl, rfl⟩,
   rfl,
   ⟨ticked .txp 0 up, .txp, 0, [], _, ⟨rfl, rfl⟩, rfl, rfl, rfl⟩,
   ⟨busyTx (.txGet 1 [] false) 0 up, .txp, 0, [], _, ⟨rfl, rfl⟩, by decide⟩⟩

/-- RxBuf holds a whole frame, and RXP runs next with its closing flag and then `more`. -/
def FrameReady (more : List Byte) (s : State) : Prop :=
  (∃ now rest q, RunsNext .rxp now rest q s ∧ q.cmd = .rxPut (0x7E :: more)) ∧ Running s ∧ s.dec.state = .reading ∧
    2 + s.eff.crcLen.toNat ≤ s.dec.stored ∧
    memRead s.dec.buf .rx (s.dec.stored - s.eff.crcLen.toNat) s.eff.crcLen.toNat =
      crcBytes s.crcKind (memRead s.dec.buf .rx 0 (s.dec.stored - s.eff.crcLen.toNat)) ∧
    s.dec.buf.read .rx 0 = 0xFF

/-- A UA frame, its closing flag the last byte, and with a byte after it. -/
theorem witness_StepRunsFrame : (∃ s, FrameReady [] s) ∧ ∃ s, FrameReady [0x7E] s :=
  ⟨⟨busyRx (.rxPut [0x7E]) (received [0xFF, 0x63, 0x35, 0x42] up), ⟨0, [], _, ⟨rfl, rfl⟩, rfl⟩, ⟨by decide, rfl⟩, rfl,
    by decide +kernel⟩,
   ⟨busyRx (.rxPut [0x7E, 0x7E]) (received [0xFF, 0x63, 0x35, 0x42] up), ⟨0, [], _, ⟨rfl, rfl⟩, rfl⟩, ⟨by decide, rfl⟩, rfl,
    by decide +kernel⟩⟩

theorem witness_HardwareReset : ∃ s : State, ∃ now rest, s.ticks = ⟨now, .reset⟩ :: rest := ⟨{ linked with ticks := [⟨7, .reset⟩] }, 7, [], rfl⟩

/-- INIT fails in a session, while closing, with MTU 0, with MTU 1025 of 1024, with window 0, with code 0x11, with a retry timeout
of 0, and with a buffer that is too small by one byte. -/
theorem witness_InitCommand_fails :
    up.fsm ≠ .uninit ∧ ({ up with closing := true } : State).closing = true ∧ off.cfg.mtu.toNat < 1 ∧
    params.mtuMax < (1025#16).toNat ∧ off.cfg.window.toNat < 1 ∧
    (∀ code len, ((0x11 : Byte), code, len) ∉ ([(0x00, 0x10, 2), (0x08, 0x08, 1), (0x10, 0x10, 2), (0x20, 0x20, 4), (0xFF, 0xFF, 0)] :
      List (Byte × Byte × Nat))) ∧
    Cfg.initRetryTimeout off.cfg = 0 ∧ 107 < 2 * (16 + 2 + 2 + 8) + (16 + 2 + 2) + 32 := by
  refine ⟨by decide, rfl, by decide, by decide, by decide, ?_, by decide, by decide⟩
  intro code len h
  simp at h

theorem witness_InitCommand_succeeds :
    ∃ (s : State) (code : Byte) (len : Nat),
      (s.cfg.crc, code, len) ∈ ([(0x00, 0x10, 2), (0x08, 0x08, 1), (0x10, 0x10, 2), (0x20, 0x20, 4), (0xFF, 0xFF, 0)] :
        List (Byte × Byte × Nat)) ∧
      s.fsm = .uninit ∧ s.closing = false ∧ 1 ≤ s.cfg.mtu.toNat ∧ s.cfg.mtu.toNat ≤ s.params.mtuMax ∧ 1 ≤ s.cfg.window.toNat ∧
      s.cfg.retryTimeout ≠ 0 ∧
      s.cfg.window.toNat * (s.cfg.mtu.toNat + 2 + len + s.params.slotOverhead) + (s.cfg.mtu.toNat + 2 + len) +
        s.params.fixedOverhead ≤ s.params.bufBytes :=
  ⟨{ off with cfg := { cfgA with mtu := 1024, window := 7 } }, 0x10, 2, by decide, rfl, rfl, by decide, by decide, by decide,
   by decide, by decide +kernel⟩

theorem witness_ClosePhaseOne :
    (linked.fsm ≠ .uninit ∧ linked.closing = false) ∧
    (({ up with closing := true } : State).fsm ≠ .uninit ∧ ({ up with closing := true } : State).closing = true) := by decide

theorem witness_ClosePhaseTwo :
    (∃ s : State, ∃ p now rest q, RunsNext p now rest q s ∧ q.cmd = .close ∧ ∃ n d e, s.txp.cmd = .txGet n d e) ∧
    (∃ s : State, ∃ p now rest q, RunsNext p now rest q s ∧ q.cmd = .close ∧ ∃ d, s.rxp.cmd = .rxPut d) ∧
    (∃ s : State, ∃ p now rest q, RunsNext p now rest q s ∧ q.cmd = .close ∧ (∀ n d e, s.txp.cmd ≠ .txGet n d e) ∧
      ∀ d, s.rxp.cmd ≠ .rxPut d) := by
  refine ⟨⟨busyApp .close 0 { linked with txp := { Port.reset with cmd := .txGet 1 [] false } }, .app 0, 0, [], _, ⟨rfl, rfl⟩, rfl,
      _, _, _, rfl⟩,
    ⟨busyApp .close 0 { linked with rxp := { Port.reset with cmd := .rxPut [1] } }, .app 0, 0, [], _, ⟨rfl, rfl⟩, rfl, _, rfl⟩,
    ⟨busyApp .close 0 linked, .app 0, 0, [], _, ⟨rfl, rfl⟩, rfl, ?_, ?_⟩⟩
  · exact fun n d e => Cmd.noConfusion
  · exact fun d => Cmd.noConfusion

theorem witness_SessionQueries :
    off.fsm = .uninit ∧ (linked.fsm ≠ .uninit ∧ linked.fsm = .connected) ∧ (up.fsm ≠ .uninit ∧ up.fsm ≠ .connected) := by decide

theorem running_up (x : Fsm) (h : x ≠ .uninit) : Running { up with fsm := x } := ⟨h, rfl⟩

theorem witness_DisconnectCommand :
    (∃ s : State, Running s ∧ s.fsm = .connected) ∧ (∃ s : State, Running s ∧ s.fsm = .disconnected) ∧
    (∃ s : State, Running s ∧ s.fsm = .connecting) ∧ (∃ s : State, Running s ∧ s.fsm = .disconnecting) ∧
    off.fsm = .uninit ∧ (∃ s : State, s.fsm ≠ .uninit ∧ s.closing = true) :=
  ⟨⟨_, running_up .connected (by decide), rfl⟩, ⟨_, running_up .disconnected (by decide), rfl⟩,
   ⟨_, running_up .connecting (by decide), rfl⟩, ⟨_, running_up .disconnecting (by decide), rfl⟩,
   rfl, ⟨{ up with closing := true }, by decide, rfl⟩⟩

theorem witness_CommandsTurnedAway :
    off.port ≠ .txp ∧ off.port ≠ .rxp ∧ (∀ a, (on .txp 0 off).port ≠ .app a) ∧ off.fsm = .uninit ∧
    (∃ s : State, s.fsm ≠ .uninit ∧ s.closing = true ∧ s.port = .txp) ∧ (∃ s : State, s.fsm ≠ .uninit ∧ s.closing = true ∧ s.port = .rxp) ∧
    (∃ s : State, ∃ a, s.fsm ≠ .uninit ∧ s.closing = true ∧ s.port = .app a) :=
  ⟨by decide, by decide, fun _ => PortId.noConfusion, rfl, ⟨on .txp 0 { up with closing := true }, by decide, rfl, rfl⟩,
   ⟨on .rxp 0 { up with closing := true }, by decide, rfl, rfl⟩, ⟨on (.app 0) 0 { up with closing := true }, 0, by decide, rfl, rfl⟩⟩

theorem witness_TxGetPrologue : ∃ s : State, s.port = .txp ∧ Running s :=
  ⟨on .txp 0 linked, rfl, ⟨by decide, rfl⟩⟩

theorem witness_TxGetGoesOn :
    (∃ s : State, ∃ now rest q left dout ended, RunsNext .txp now rest q s ∧ q.cmd = .txGet left dout ended ∧ ended = true) ∧
    (∃ s : State, ∃ now rest q left dout ended, RunsNext .txp now rest q s ∧ q.cmd = .txGet left dout ended ∧ left = 0) ∧
    (∃ s : State, ∃ now rest q left dout, RunsNext .txp now rest q s ∧ q.cmd = .txGet left dout false ∧ left ≠ 0 ∧ s.closing = true) ∧
    (∃ s : State, ∃ now rest q left dout, RunsNext .txp now rest q s ∧ q.cmd = .txGet left dout false ∧ left ≠ 0 ∧ s.closing = false ∧
      (encodeStep { s with now := now, port := .txp, ticks := rest }).2 = none) ∧
    (∃ s : State, ∃ now rest q left dout b, RunsNext .txp now rest q s ∧ q.cmd = .txGet left dout false ∧ left ≠ 0 ∧ s.closing = false ∧
      (encodeStep { s with now := now, port := .txp, ticks := rest }).2 = some b) :=
  ⟨⟨busyTx (.txGet 1 [] true) 0 up, 0, [], _, _, _, _, ⟨rfl, rfl⟩, rfl, rfl⟩,
   ⟨busyTx (.txGet 0 [] false) 0 up, 0, [], _, _, _, _, ⟨rfl, rfl⟩, rfl, rfl⟩,
   ⟨busyTx (.txGet 1 [] false) 0 { up with closing := true }, 0, [], _, _, _, ⟨rfl, rfl⟩, rfl, by decide, rfl⟩,
   ⟨busyTx (.txGet 65535 [] false) 0 linked, 0, [], _, _, _, ⟨rfl, rfl⟩, rfl, by decide, rfl, by decide +kernel⟩,
   ⟨busyTx (.txGet 1 [] false) 0 up, 0, [], _, _, _, 0x7E, ⟨rfl, rfl⟩, rfl, by decide, rfl, by decide +kernel⟩⟩

theorem witness_RxPutBytes :
    (∃ s : State, s.port = .rxp ∧ Running s) ∧
    (∃ s : State, ∃ now rest q b more, RunsNext .rxp now rest q s ∧ q.cmd = .rxPut (b :: more) ∧ s.closing = true) ∧
    (∃ s : State, ∃ now rest q b more, RunsNext .rxp now rest q s ∧ q.cmd = .rxPut (b :: more) ∧ s.closing = false ∧ more = []) ∧
    (∃ s : State, ∃ now rest q b more, RunsNext .rxp now rest q s ∧ q.cmd = .rxPut (b :: more) ∧ s.closing = false ∧ more ≠ []) :=
  ⟨⟨on .rxp 0 linked, rfl, ⟨by decide, rfl⟩⟩,
   ⟨busyRx (.rxPut [1]) { up with closing := true }, 0, [], _, _, _, ⟨rfl, rfl⟩, rfl, rfl⟩,
   ⟨busyRx (.rxPut [1]) up, 0, [], _, _, _, ⟨rfl, rfl⟩, rfl, rfl, rfl⟩,
   ⟨busyRx (.rxPut [1, 2]) up, 0, [], _, _, _, ⟨rfl, rfl⟩, rfl, rfl, by decide⟩⟩

theorem witness_SendPacketIssue :
    (∀ a, (on .txp 0 up).port ≠ .app a) ∧ off.fsm = .uninit ∧
    (∃ s : State, ∃ a, s.port = .app a ∧ s.fsm ≠ .uninit ∧ s.closing = true) ∧
    (∃ s : State, ∃ a, s.port = .app a ∧ s.fsm ≠ .uninit ∧ s.closing = false ∧
      s.eff.mtu.toNat < (List.replicate 17 (0 : Byte)).length) ∧
    (∃ s : State, ∃ a, s.port = .app a ∧ s.fsm ≠ .uninit ∧ s.closing = false ∧
      (List.replicate 16 (0 : Byte)).length ≤ s.eff.mtu.toNat ∧ s.fsm ≠ .disconnected) ∧
    (∃ s : State, ∃ a, s.port = .app a ∧ s.fsm ≠ .uninit ∧ s.closing = false ∧
      (List.replicate 16 (0 : Byte)).length ≤ s.eff.mtu.toNat ∧ s.fsm = .disconnected) :=
  ⟨fun _ => PortId.noConfusion, rfl, ⟨{ up with closing := true }, 0, rfl, by decide, rfl⟩,
   ⟨linked, 0, rfl, by decide, rfl, by decide⟩, ⟨linked, 0, rfl, by decide, rfl, by decide, by decide⟩,
   ⟨up, 0, rfl, by decide, rfl, by decide, rfl⟩⟩

/-- Cancelled by closing; room in an empty ring; a full ring past the deadline and one before it. -/
theorem witness_SendPacketCompletion :
    (∃ s : State, ∃ p now rest q payload t g, RunsNext p now rest q s ∧ q.cmd = .sendPacket payload t g ∧ s.closing = true) ∧
    (∃ s : State, ∃ p now rest q payload t g, RunsNext p now rest q s ∧ q.cmd = .sendPacket payload t g ∧
      ¬ (s.closing = true ∨ s.fsm = .uninit ∨ s.ctr.failGen ≠ g) ∧ s.ring.count.toNat < s.w ∧ s.fsm = .connected) ∧
    (∃ s : State, ∃ p now rest q payload t g, RunsNext p now rest q s ∧ q.cmd = .sendPacket payload t g ∧
      ¬ (s.closing = true ∨ s.fsm = .uninit ∨ s.ctr.failGen ≠ g) ∧ ¬ s.ring.count.toNat < s.w ∧
      s.eff.sendTimeout.toNat ≤ (now - t).toNat) ∧
    (∃ s : State, ∃ p now rest q payload t g, RunsNext p now rest q s ∧ q.cmd = .sendPacket payload t g ∧
      ¬ (s.closing = true ∨ s.fsm = .uninit ∨ s.ctr.failGen ≠ g) ∧ ¬ s.ring.count.toNat < s.w ∧
      ¬ s.eff.sendTimeout.toNat ≤ (now - t).toNat) :=
  ⟨⟨busyApp (.sendPacket [1] 0 0) 0 { linked with closing := true }, .app 0, 0, [], _, _, _, _, ⟨rfl, rfl⟩, rfl, rfl⟩,
   ⟨busyApp (.sendPacket [1] 0 0) 0 linked, .app 0, 0, [], _, _, _, _, ⟨rfl, rfl⟩, rfl, by decide, by decide, rfl⟩,
   ⟨busyApp (.sendPacket [1] 0 0) 1000 (withRing 1 0 1 [slotOf .queued 0 2 0 1] linked), .app 0, 1000, [], _, _, _, _, ⟨rfl, rfl⟩, rfl,
    by decide, by decide, by decide⟩,
   ⟨busyApp (.sendPacket [1] 0 0) 999 (withRing 1 0 1 [slotOf .queued 0 2 0 1] linked), .app 0, 999, [], _, _, _, _, ⟨rfl, rfl⟩, rfl,
    by decide, by decide, by decide⟩⟩

theorem witness_SendPacketRaisesNoEvent :
    (∃ s : State, ∃ payload t, exec (.sendPacket payload) s = .next t) ∧
    (∃ s : State, ∃ p now rest q payload t g u, RunsNext p now rest q s ∧ q.cmd = .sendPacket payload t g ∧ step s = .next u) :=
  ⟨⟨linked, [1], _, rfl⟩, ⟨busyApp (.sendPacket [1] 0 0) 0 linked, .app 0, 0, [], _, _, _, _, _, ⟨rfl, rfl⟩, rfl, rfl⟩⟩

/-- A ring with a finished, a sent and a QUEUED slot, in CONNECTED: `head` 2 of W 4, numbered from `confirm_ns` 7. -/
def mixed : State :=
  withRing 4 2 3 [slotOf .queued 0 2 0 3, Slot.reset, slotOf .acked 6 2 0 1, slotOf .awaitingAck 7 2 0 2]
    { linked with win := ⟨0, 7, 1, 1⟩ }

theorem ringInv_mixed : RingInv mixed where
  seven := rfl
  noWindow := Fsm.noConfusion
  headInW := fun _ => by decide
  countLeW := by decide
  freeOutside := by
    intro i h
    by_cases hi : i < 7
    · revert h; interval_cases i <;> decide +kernel
    · simp only [State.slot, List.getD_eq_getElem?_getD]
      rw [List.getElem?_eq_none (by simp [mixed, withRing]; omega)]
      rfl
  occupied := by decide +kernel
  ordered := by decide +kernel
  numbered := fun _ => by decide +kernel

/-- The first queued slot, and the first slot to retransmit, of `mixed`. -/
theorem witness_EnqueueKeepsPayload :
    ∃ (s : State) (payload : List Byte), RingInv s ∧ s.fsm ≠ .uninit ∧ s.ring.count.toNat < s.w ∧ payload.length < 65536 :=
  ⟨mixed, [1], ringInv_mixed, by decide, by decide, by decide⟩

theorem witness_CompletionsDelivered :
    RingInv mixed ∧ (mixed.ringSlots.takeWhile (fun x => decide (x.state = .acked ∨ x.state = .failed))).length = 1 :=
  ⟨ringInv_mixed, by decide +kernel⟩

/-- TimerPhase leaves `s` as it is, so that the clauses of the priorities can be met with its flags. -/
theorem witness_PriorityOne :
    (timerPhase { linked with flag := { linked.flag with uaOwed := true } }).flag.uaOwed = true ∧
    (timerPhase { linked with flag := { linked.flag with frmrOwed := true } }).flag.uaOwed = false ∧
    (timerPhase { linked with flag := { linked.flag with frmrOwed := true } }).flag.frmrOwed = true ∧
    (timerPhase up).flag.uaOwed = false ∧ (timerPhase up).flag.frmrOwed = false ∧ (timerPhase up).flag.sabmPending = true ∧
    (let u := timerPhase { up with fsm := .disconnecting, flag := { up.flag with discPending := true } }
     u.flag.uaOwed = false ∧ u.flag.frmrOwed = false ∧ u.flag.sabmPending = false ∧ u.flag.discPending = true) := by decide +kernel

theorem noUnnumbered_linked : NoUnnumbered linked := ⟨rfl, rfl, rfl, rfl⟩

theorem witness_PriorityTwo :
    (∃ s : State, (timerPhase s).fsm = .connected ∧ NoUnnumbered (timerPhase s) ∧ (timerPhase s).flag.rejOwed = true) ∧
    (∃ s : State, (timerPhase s).fsm = .connected ∧ NoUnnumbered (timerPhase s) ∧ (timerPhase s).flag.rejOwed = false ∧
      (timerPhase s).flag.pollOwed = true) ∧
    (∃ s : State, (timerPhase s).fsm = .connected ∧ NoUnnumbered (timerPhase s) ∧ (timerPhase s).flag.rejOwed = false ∧
      (timerPhase s).flag.ackOwed = true ∧
      (timerPhase s).eff.ackDefer.toNat ≤ ((timerPhase s).now - (timerPhase s).tim.ackSince).toNat) :=
  ⟨⟨{ linked with flag := { linked.flag with rejOwed := true } }, rfl, ⟨rfl, rfl, rfl, rfl⟩, rfl⟩,
   ⟨{ linked with flag := { linked.flag with pollOwed := true } }, rfl, ⟨rfl, rfl, rfl, rfl⟩, rfl, rfl⟩,
   ⟨{ linked with flag := { linked.flag with ackOwed := true } }, rfl, ⟨rfl, rfl, rfl, rfl⟩, rfl, rfl, by decide +kernel⟩⟩

theorem witness_PriorityThree :
    ∃ (s : State) (i : Nat), (timerPhase s).fsm = .connected ∧ NoUnnumbered (timerPhase s) ∧ NoAckDue (timerPhase s) ∧
      (timerPhase s).flag.peerBusy = false ∧ (timerPhase s).ring.slots.length = 7 ∧
      FirstInRing (timerPhase s) (fun x => x.state = .queued) i ∧
      ((timerPhase s).win.nextNs - (timerPhase s).win.confirmNs).toNat < (timerPhase s).w := by
  have h : timerPhase mixed = mixed := by decide +kernel
  refine ⟨mixed, 0, ?_⟩
  rw [h]
  exact ⟨rfl, ⟨rfl, rfl, rfl, rfl⟩, ⟨rfl, rfl, Bool.noConfusion⟩, rfl, rfl, ⟨[2, 3], [], by decide +kernel, by decide +kernel, by decide +kernel⟩,
    by decide +kernel⟩

/-- `mixed` after its QUEUED slot has gone, when the slot numbered 7 is due. -/
def due : State := on .txp 100 (withRing 4 2 2 [Slot.reset, Slot.reset, slotOf .acked 6 2 0 1, slotOf .awaitingAck 7 2 0 2]
  { linked with win := ⟨0, 7, 1, 1⟩ })

theorem witness_PriorityFour :
    ∃ (s : State) (i : Nat), (timerPhase s).fsm = .connected ∧ NoUnnumbered (timerPhase s) ∧ NoAckDue (timerPhase s) ∧
      NoNewFrame (timerPhase s) ∧ (timerPhase s).flag.peerBusy = false ∧ (timerPhase s).ring.slots.length = 7 ∧
      FirstInRing (timerPhase s) (Due (timerPhase s)) i := by
  have h : timerPhase due = due := by decide +kernel
  refine ⟨due, 3, ?_⟩
  rw [h]
  refine ⟨rfl, ⟨rfl, rfl, rfl, rfl⟩, ⟨rfl, rfl, Bool.noConfusion⟩, .inr (.inl ?_), rfl, rfl, [2], [], by decide +kernel, ?_, ?_⟩
  · decide +kernel
  · exact ⟨rfl, by decide +kernel, by decide +kernel⟩
  · intro j hj
    rw [List.mem_singleton.mp hj]
    exact fun x => SlotState.noConfusion x.1

theorem witness_PriorityFiveOrNothing :
    (∃ s : State, NoUnnumbered (timerPhase s) ∧ (timerPhase s).fsm = .connected ∧ NoAckDue (timerPhase s) ∧ NoNewFrame (timerPhase s) ∧
      NoRetransmission (timerPhase s) ∧ (timerPhase s).eff.kaTimeout ≠ 0 ∧
      (timerPhase s).eff.kaTimeout.toNat ≤ ((timerPhase s).now - (timerPhase s).tim.lastTx).toNat) ∧
    (∃ s : State, NoUnnumbered (timerPhase s) ∧ (timerPhase s).fsm = .connected ∧ NoAckDue (timerPhase s) ∧ NoNewFrame (timerPhase s) ∧
      NoRetransmission (timerPhase s) ∧ (timerPhase s).eff.kaTimeout = 0) ∧
    (∃ s : State, NoUnnumbered (timerPhase s) ∧ (timerPhase s).fsm ≠ .connected) := by
  refine ⟨⟨on .txp 100 { linked with eff := { linked.eff with kaTimeout := 100 } }, ⟨rfl, rfl, rfl, rfl⟩, rfl, ⟨rfl, rfl, Bool.noConfusion⟩,
      .inr (.inl ?_), .inr ?_, by decide +kernel, by decide +kernel⟩,
    ⟨linked, ⟨rfl, rfl, rfl, rfl⟩, rfl, ⟨rfl, rfl, Bool.noConfusion⟩, .inr (.inl ?_), .inr ?_, by decide +kernel⟩,
    ⟨{ up with fsm := .connecting }, ⟨rfl, rfl, rfl, rfl⟩, Fsm.noConfusion⟩⟩
  all_goals
    intro i h
    exact absurd h (by rw [show State.ringOrder _ = [] by decide +kernel]; exact List.not_mem_nil)

/-- The first SABM, and one that shares the flag of the frame before. -/
theorem witness_EncoderEmitsFrame :
    (∃ s : State, ∃ u, s.enc.phase = .idle ∧ selectFrame s = (u, true) ∧ u.enc.lastFlag = false) ∧
    (∃ s : State, ∃ u, s.enc.phase = .idle ∧ selectFrame s = (u, true) ∧ u.enc.lastFlag = true) :=
  ⟨⟨up, (selectFrame up).1, rfl, by rw [Prod.ext_iff]; exact ⟨rfl, by decide +kernel⟩, by decide +kernel⟩,
   ⟨{ up with enc := { up.enc with lastFlag := true } }, (selectFrame { up with enc := { up.enc with lastFlag := true } }).1, rfl,
    by rw [Prod.ext_iff]; exact ⟨rfl, by decide +kernel⟩, by decide +kernel⟩⟩

/-- The shortest body and the longest one, 16 bytes of payload with `mtu` 16. -/
theorem witness_DecoderRoundTrip :
    up.dec.state = .hunt ∧ ((received [] linked).dec.state = .reading ∧ (received [] linked).dec.stored = 0) ∧
    up.eff.crcLen.toNat = up.crcKind.len ∧
    (∀ n ∈ [2, 18], 2 ≤ (List.replicate n (0xFF : Byte)).length ∧
      (List.replicate n (0xFF : Byte) ++ crcBytes up.crcKind (List.replicate n 0xFF)).length ≤ up.rxCapacity) := by decide +kernel

theorem witness_LinkCarriesFrames :
    ∃ (a u r : State) (c : Byte) (p : List Byte),
      a.enc.phase = .idle ∧ selectFrame a = (u, true) ∧ Staged c p u ∧ u.enc.lastFlag = false ∧
      r.dec.state = .hunt ∧ r.crcKind = u.crcKind ∧ r.eff.crcLen.toNat = r.crcKind.len ∧
      (interior u.crcKind c p).length ≤ r.rxCapacity :=
  ⟨up, (selectFrame up).1, up, 0x2F, [], rfl, by rw [Prod.ext_iff]; exact ⟨rfl, by decide +kernel⟩,
   ⟨by decide +kernel, by decide +kernel⟩, by decide +kernel, rfl, by decide +kernel, by decide +kernel, by decide +kernel⟩

theorem witness_DecoderDrops :
    up.dec.state = .hunt ∧ ({ up with dec := { up.dec with state := .escape } } : State).dec.state = .escape ∧
    (let s := received (List.replicate 20 0) linked
     s.dec.state = .reading ∧ s.dec.stored = s.rxCapacity ∧ 2 + s.eff.crcLen.toNat ≤ s.dec.stored) ∧
    (let s := ({ up with dec := { up.dec with state := .escape } } : State); s.dec.stored ≠ s.rxCapacity) ∧
    (let s := ({ up with dec := { up.dec with state := .escape, len := 20 } } : State); s.dec.stored = s.rxCapacity) ∧
    (let s := received [] linked; s.dec.state = .reading ∧ s.dec.stored ≠ s.rxCapacity) ∧
    (let s := received [0xFF, 0x00, 0x6F] linked; s.dec.stored < 2 + s.eff.crcLen.toNat) ∧
    (let s := received [0xFF, 0x63, 0x35, 0x43] linked
     2 + s.eff.crcLen.toNat ≤ s.dec.stored ∧
     memRead s.dec.buf .rx (s.dec.stored - s.eff.crcLen.toNat) s.eff.crcLen.toNat ≠
       crcBytes s.crcKind (memRead s.dec.buf .rx 0 (s.dec.stored - s.eff.crcLen.toNat))) ∧
    (let s := received [0xFE, 0x63, 0x04, 0x71] linked
     memRead s.dec.buf .rx (s.dec.stored - s.eff.crcLen.toNat) s.eff.crcLen.toNat =
       crcBytes s.crcKind (memRead s.dec.buf .rx 0 (s.dec.stored - s.eff.crcLen.toNat)) ∧ s.dec.buf.read .rx 0 ≠ 0xFF) := by
  decide +kernel

/-- `mixed` has one sent slot: N(R) 7 and 0 are valid there, 1 is the first that is not. -/
theorem witness_ReceivedNR :
    RingInv mixed ∧ mixed.fsm = .connected ∧
    ((0 : Seq) - mixed.win.confirmNs).toNat ≤ (mixed.win.nextNs - mixed.win.confirmNs).toNat ∧
    (mixed.win.nextNs - mixed.win.confirmNs).toNat < ((1 : Seq) - mixed.win.confirmNs).toNat :=
  ⟨ringInv_mixed, rfl, by decide, by decide⟩

theorem witness_InSequenceIFrame : linked.fsm = .connected ∧ linked.closing = false := ⟨rfl, rfl⟩

theorem witness_OutOfSequenceIFrame : linked.fsm = .connected ∧ linked.closing = false ∧ (7 : Seq) ≠ linked.win.nextNr :=
  ⟨rfl, rfl, by decide⟩

theorem witness_SupervisoryFrames :
    ∃ s : State, s.fsm = .connected ∧ s.closing = false ∧ s.rxPayload = [] ∧
      (s.win.nextNs - s.win.confirmNs).toNat < ((4 : Seq) - s.win.confirmNs).toNat ∧
      ((3 : Seq) - s.win.confirmNs).toNat ≤ (s.win.nextNs - s.win.confirmNs).toNat :=
  ⟨received [0xFF, 0x61, 0, 0] threeSent, rfl, rfl, by decide +kernel, by decide +kernel, by decide +kernel⟩

theorem witness_FrmrTriggers : ∃ s : State, Running s ∧ s.rxPayload ≠ [] :=
  ⟨received [0xFF, 0x01, 0x00, 0xCE, 0x30] linked, ⟨by decide, rfl⟩, by decide +kernel⟩

theorem witness_FramesWithoutEffect :
    (∃ s : State, Running s ∧ s.fsm ≠ .connected ∧ s.rxPayload = []) ∧ (∃ s : State, Running s ∧ s.fsm = .disconnected ∧ s.rxPayload = []) ∧
    (∃ s : State, Running s ∧ s.fsm = .connected ∧ s.rxPayload = []) ∧ off.fsm = .uninit ∧
    ({ up with closing := true } : State).closing = true :=
  ⟨⟨_, running_up .connecting (by decide), by decide, by decide +kernel⟩, ⟨_, running_up .disconnected (by decide), rfl, by decide +kernel⟩,
   ⟨_, running_up .connected (by decide), rfl, by decide +kernel⟩, rfl, rfl⟩

theorem witness_SabmReceived : ∃ s : State, Running s ∧ s.rxPayload = [] := ⟨_, running_up .connected (by decide), by decide +kernel⟩

theorem witness_UaReceived :
    (∃ s : State, s.closing = false ∧ s.rxPayload = [] ∧ s.fsm = .connecting) ∧
    (∃ s : State, s.closing = false ∧ s.rxPayload = [] ∧ s.fsm = .disconnecting) ∧
    (∃ s : State, s.closing = false ∧ s.rxPayload = [] ∧ s.fsm = .connected) :=
  ⟨⟨{ up with fsm := .connecting }, rfl, by decide +kernel, rfl⟩, ⟨{ up with fsm := .disconnecting }, rfl, by decide +kernel, rfl⟩,
   ⟨linked, rfl, by decide +kernel, rfl⟩⟩

theorem witness_DiscReceived :
    (∃ s : State, Running s ∧ s.rxPayload = [] ∧ s.fsm = .disconnected) ∧ (∃ s : State, Running s ∧ s.rxPayload = [] ∧ s.fsm ≠ .disconnected) :=
  ⟨⟨_, running_up .disconnected (by decide), by decide +kernel, rfl⟩, ⟨_, running_up .connecting (by decide), by decide +kernel, by decide⟩⟩

theorem witness_DuplicateDeliveredOnce : linked.fsm = .connected ∧ linked.closing = false ∧ (0 : Seq) = linked.win.nextNr :=
  ⟨rfl, rfl, rfl⟩

theorem witness_TimersIdempotent : up.eff.retryTimeout ≠ 0 := by decide

/-- After INIT the wait is 0; DISCONNECTED entered at 1000 waits 100 (§2.7.4). -/
theorem witness_PeriodicConnect :
    off.fsm = .uninit ∧
    (let s := on .txp 1099 { up with tim := { up.tim with connBase := 1000, connWait := 100 } }
     s.fsm = .disconnected ∧ (s.now - s.tim.connBase).toNat < s.tim.connWait.toNat) ∧
    (let s := on .txp 1100 { up with tim := { up.tim with connBase := 1000, connWait := 100 } }
     s.fsm = .disconnected ∧ s.tim.connWait.toNat ≤ (s.now - s.tim.connBase).toNat) := by decide +kernel

theorem witness_UnnumberedRetry :
    (let s := on .txp 99 { up with fsm := .connecting, flag := { up.flag with uTimerRunning := true } }
     s.fsm = .connecting ∧ ¬ (s.flag.uTimerRunning = true ∧ s.eff.retryTimeout.toNat ≤ (s.now - s.tim.uSentAt).toNat)) ∧
    (let s := on .txp 100 { up with fsm := .connecting, flag := { up.flag with uTimerRunning := true },
                                    ctr := { up.ctr with uRetriesLeft := 1 } }
     s.fsm = .connecting ∧ (s.flag.uTimerRunning = true ∧ s.eff.retryTimeout.toNat ≤ (s.now - s.tim.uSentAt).toNat) ∧
       s.ctr.uRetriesLeft ≠ 0) ∧
    (let s := on .txp 100 { up with fsm := .disconnecting, flag := { up.flag with uTimerRunning := true } }
     s.fsm = .disconnecting ∧ (s.flag.uTimerRunning = true ∧ s.eff.retryTimeout.toNat ≤ (s.now - s.tim.uSentAt).toNat) ∧
       s.ctr.uRetriesLeft = 0) := by decide +kernel

/-- §2.7.2 and §2.7.3, and CONNECTED with nothing lost. -/
theorem witness_PeerLoss :
    (let s := on .txp 300 (withRing 2 0 1 [slotOf .awaitingAck 0 0 200 1] linked)
     s.fsm = .connected ∧ s.flag.peerBusy = false ∧ ∃ x ∈ s.ring.slots, x.state = .awaitingAck ∧
       s.eff.retryTimeout.toNat ≤ (s.now - x.sentAt).toNat ∧ x.retriesLeft = 0) ∧
    (let s := on .txp 200 { linked with eff := { linked.eff with kaTimeout := 100, retries := 0 }, tim := { linked.tim with lastTx := 100 },
                                        ctr := { linked.ctr with kaUnanswered := 1 } }
     s.fsm = .connected ∧ s.eff.kaTimeout ≠ 0 ∧ s.eff.kaTimeout.toNat ≤ (s.now - s.tim.lastTx).toNat ∧
       s.eff.retries.toNat < s.ctr.kaUnanswered.toNat) ∧
    (linked.fsm = .connected ∧ (∀ x ∈ linked.ring.slots, x.state ≠ .awaitingAck) ∧ linked.eff.kaTimeout = 0) := by decide +kernel

/-- A number of the register table and one beside it (§2.8.11); a CFG register and the first number after them. -/
theorem witness_ReadRegister_WriteRegister :
    (linked.readRegister 0x3E).isSome = true ∧ linked.readRegister 0x3F = none ∧ linked.readRegister 0x37 = none ∧
    (linked.cfg.write 0x08 1).isSome = true ∧ linked.cfg.write 0x09 1 = none := by decide +kernel

theorem witness_BufferSizeCommand :
    ((0#16).toNat < 1) ∧ ((0#8).toNat < 1) ∧ 7 < (8#8).toNat ∧
    (∀ len, ((0x11 : Byte), len) ∉ ([(0x00, 2), (0x08, 1), (0x10, 2), (0x20, 4), (0xFF, 0)] : List (Byte × Nat))) ∧
    (((0xFF : Byte), 0) ∈ ([(0x00, 2), (0x08, 1), (0x10, 2), (0x20, 4), (0xFF, 0)] : List (Byte × Nat)) ∧ 1 ≤ (65535#16).toNat ∧
      1 ≤ (7#8).toNat ∧ (7#8).toNat ≤ 7) := by
  refine ⟨by decide, by decide, by decide, ?_, by decide⟩
  intro len h
  simp at h

theorem witness_RunTxLoop :
    (∃ s : State, ∃ now rest q total ws, RunsNext .txp now rest q s ∧ q.cmd = .idle ∧ q.proc = some (.runTxGet total ws)) ∧
    (∃ s : State, ∃ now rest q total ws r, RunsNext .txp now rest q s ∧ q.cmd = .idle ∧ q.proc = some (.runTxWait total ws) ∧ q.reply = some r ∧
      r.res.toInt ≤ 0) ∧
    (∃ s : State, ∃ now rest q total ws r, RunsNext .txp now rest q s ∧ q.cmd = .idle ∧ q.proc = some (.runTxWait total ws) ∧ q.reply = some r ∧
      0 < r.res.toInt) ∧
    (∃ s : State, ∃ now rest q total w ws bytes, RunsNext .txp now rest q s ∧ q.cmd = .idle ∧ q.proc = some (.runTxWrite total (w :: ws) bytes) ∧
      w.toInt ≤ 0) ∧
    (∃ s : State, ∃ now rest q total w ws bytes, RunsNext .txp now rest q s ∧ q.cmd = .idle ∧ q.proc = some (.runTxWrite total (w :: ws) bytes) ∧
      0 < w.toInt ∧ bytes.drop w.toNat ≠ []) ∧
    (∃ s : State, ∃ now rest q total w ws bytes, RunsNext .txp now rest q s ∧ q.cmd = .idle ∧ q.proc = some (.runTxWrite total (w :: ws) bytes) ∧
      0 < w.toInt ∧ bytes.drop w.toNat = []) :=
  ⟨⟨hosted .txp (.runTxGet 0 []) none up, 0, [], _, _, _, ⟨rfl, rfl⟩, rfl, rfl⟩,
   ⟨hosted .txp (.runTxWait 0 []) (some ⟨0, []⟩) up, 0, [], _, _, _, _, ⟨rfl, rfl⟩, rfl, rfl, rfl, by decide⟩,
   ⟨hosted .txp (.runTxWait 0 []) (some ⟨1, [7]⟩) up, 0, [], _, _, _, _, ⟨rfl, rfl⟩, rfl, rfl, rfl, by decide⟩,
   ⟨hosted .txp (.runTxWrite 0 [0] [7]) none up, 0, [], _, _, _, _, _, ⟨rfl, rfl⟩, rfl, rfl, by decide⟩,
   ⟨hosted .txp (.runTxWrite 0 [1] [7, 8]) none up, 0, [], _, _, _, _, _, ⟨rfl, rfl⟩, rfl, rfl, by decide, by decide⟩,
   ⟨hosted .txp (.runTxWrite 0 [1] [7]) none up, 0, [], _, _, _, _, _, ⟨rfl, rfl⟩, rfl, rfl, by decide, by decide⟩⟩

theorem witness_RunRxLoop :
    (∃ s : State, ∃ now rest q total rs, RunsNext .rxp now rest q s ∧ q.cmd = .idle ∧ q.proc = some (.runRxRead total ([] :: rs))) ∧
    (∃ s : State, ∃ now rest q total bytes rs, RunsNext .rxp now rest q s ∧ q.cmd = .idle ∧ q.proc = some (.runRxRead total (bytes :: rs)) ∧
      bytes ≠ [] ∧ bytes.length ≤ 4) ∧
    (∃ s : State, ∃ now rest q total rs n r, RunsNext .rxp now rest q s ∧ q.cmd = .idle ∧ q.proc = some (.runRxWait total rs n) ∧
      q.reply = some r) :=
  ⟨⟨hosted .rxp (.runRxRead 0 [[]]) none up, 0, [], _, _, _, ⟨rfl, rfl⟩, rfl, rfl⟩,
   ⟨hosted .rxp (.runRxRead 0 [[1, 2, 3, 4]]) none up, 0, [], _, _, _, _, ⟨rfl, rfl⟩, rfl, rfl, by decide, by decide⟩,
   ⟨hosted .rxp (.runRxWait 0 [] 4) (some ⟨0, []⟩) up, 0, [], _, _, _, _, _, ⟨rfl, rfl⟩, rfl, rfl, rfl⟩⟩

theorem witness_SendLoop :
    (∃ s : State, ∃ now rest q buf, RunsNext (.app 0) now rest q s ∧ q.cmd = .idle ∧ q.proc = some (.sendMtu buf)) ∧
    (∃ s : State, ∃ now rest q buf r, RunsNext (.app 0) now rest q s ∧ q.cmd = .idle ∧ q.proc = some (.sendMtuWait buf) ∧ q.reply = some r) ∧
    (∃ s : State, ∃ now rest q buf m sent, RunsNext (.app 0) now rest q s ∧ q.cmd = .idle ∧ q.proc = some (.sendLoop buf m sent) ∧ buf.length ≤ sent) ∧
    (∃ s : State, ∃ now rest q buf m sent, RunsNext (.app 0) now rest q s ∧ q.cmd = .idle ∧ q.proc = some (.sendLoop buf m sent) ∧
      sent < buf.length ∧ 0 ≤ m.toInt) ∧
    (∃ s : State, ∃ now rest q buf m sent k r, RunsNext (.app 0) now rest q s ∧ q.cmd = .idle ∧ q.proc = some (.sendWait buf m sent k) ∧
      q.reply = some r ∧ r.res = 0) ∧
    (∃ s : State, ∃ now rest q buf m sent k r, RunsNext (.app 0) now rest q s ∧ q.cmd = .idle ∧ q.proc = some (.sendWait buf m sent k) ∧
      q.reply = some r ∧ r.res ≠ 0 ∧ sent = 0 ∧ r.res ≠ -2) ∧
    (∃ s : State, ∃ now rest q buf m sent k r, RunsNext (.app 0) now rest q s ∧ q.cmd = .idle ∧ q.proc = some (.sendWait buf m sent k) ∧
      q.reply = some r ∧ r.res ≠ 0 ∧ (sent ≠ 0 ∨ r.res = -2)) :=
  ⟨⟨hosted (.app 0) (.sendMtu [1]) none up, 0, [], _, _, ⟨rfl, rfl⟩, rfl, rfl⟩,
   ⟨hosted (.app 0) (.sendMtuWait [1]) (some ⟨16, []⟩) up, 0, [], _, _, _, ⟨rfl, rfl⟩, rfl, rfl, rfl⟩,
   ⟨hosted (.app 0) (.sendLoop [1] 16 1) none up, 0, [], _, _, _, _, ⟨rfl, rfl⟩, rfl, rfl, by decide⟩,
   ⟨hosted (.app 0) (.sendLoop [1] 16 0) none up, 0, [], _, _, _, _, ⟨rfl, rfl⟩, rfl, rfl, by decide, by decide⟩,
   ⟨hosted (.app 0) (.sendWait [1] 16 0 1) (some ⟨0, []⟩) up, 0, [], _, _, _, _, _, _, ⟨rfl, rfl⟩, rfl, rfl, rfl, rfl⟩,
   ⟨hosted (.app 0) (.sendWait [1] 16 0 1) (some ⟨-1, []⟩) up, 0, [], _, _, _, _, _, _, ⟨rfl, rfl⟩, rfl, rfl, rfl, by decide, rfl, by decide⟩,
   ⟨hosted (.app 0) (.sendWait [1, 2] 1 1 1) (some ⟨-1, []⟩) up, 0, [], _, _, _, _, _, _, ⟨rfl, rfl⟩, rfl, rfl, rfl, by decide, .inl (by decide)⟩⟩

/-- A session in use, its invariants met, whose TXP runs next. -/
def inUse : State := busyTx (.txGet 8 [] false) 0 mixed

theorem ringInv_inUse : RingInv inUse :=
  { ringInv_mixed with }

theorem witness_StorageKept : ∃ s : State, ∃ t, step s = .next t ∧ RamCanonical s ∧ RamWritten s := by
  refine ⟨inUse, next (step inUse), by rfl, ⟨by decide +kernel, by decide +kernel, by decide +kernel⟩, ?_, ?_, ?_⟩
  · intro x hx hf a ha
    have : ∀ x ∈ inUse.ring.slots, x.state ≠ .free → ∀ a ∈ List.range x.len.toNat, (Memory.find x.ram a).isSome = true := by
      decide +kernel
    exact this x hx hf a (List.mem_range.mpr ha)
  · intro a ha; exact absurd ha (Nat.not_lt_zero a)
  · intro h; exact absurd rfl h

theorem witness_WindowKept : ∃ s : State, ∃ t, WindowInv s ∧ step s = .next t :=
  ⟨inUse, next (step inUse), show inUse.outstanding ≤ inUse.w by decide +kernel, by rfl⟩

theorem witness_CountersKept : ∃ s : State, ∃ t, step s = .next t ∧ KeepAliveInv s ∧ RxBoundInv s :=
  ⟨inUse, next (step inUse), by rfl, show inUse.ctr.kaUnanswered.toNat ≤ inUse.eff.retries.toNat + 1 by decide +kernel,
   show inUse.dec.stored ≤ inUse.rxCapacity by decide +kernel⟩

theorem portsLegal_inUse : PortsLegal inUse := by
  refine ⟨?_, ⟨fun d => Cmd.noConfusion, fun p t g => Cmd.noConfusion⟩, ⟨fun n d e => Cmd.noConfusion, fun p t g => Cmd.noConfusion⟩⟩
  intro q hq
  have h : q.cmd = .idle := by revert q; decide +kernel
  rw [h]
  exact ⟨fun n d e => Cmd.noConfusion, fun d => Cmd.noConfusion⟩

theorem witness_SessionKept : ∃ s : State, ∃ t, step s = .next t ∧ EffInv s ∧ SessionInv s ∧ s.fsm ≠ .uninit :=
  ⟨inUse, next (step inUse), by rfl,
   ⟨by decide +kernel, fun _ => by decide +kernel, fun _ => by decide +kernel, fun _ => by decide +kernel, fun _ => by decide +kernel⟩,
   ⟨portsLegal_inUse, Fsm.noConfusion⟩, Fsm.noConfusion⟩

theorem witness_RingKept : ∃ s : State, ∃ t, RingInv s ∧ step s = .next t := ⟨inUse, next (step inUse), ringInv_inUse, by rfl⟩

theorem witness_OnlyCloseEndsSession :
    ∃ s : State, ∃ t, step s = .next t ∧ s.fsm ≠ .uninit ∧ t.fsm = .uninit :=
  ⟨busyApp .close 0 linked, next (step (busyApp .close 0 linked)), by rfl, by decide, by decide +kernel⟩

theorem witness_OnlyWriteRegWritesCfg :
    (∃ s : State, ∃ t, step s = .next t ∧ t.cfg ≠ s.cfg) ∧ (∃ s : State, ∃ t, step s = .next t ∧ t.eff ≠ s.eff) :=
  ⟨⟨asked (.request ⟨0x0000010C, 2, []⟩) off, next (step (asked (.request ⟨0x0000010C, 2, []⟩) off)), by rfl, by decide +kernel⟩,
   ⟨asked (.request ⟨0x00000009, 100, []⟩) up, next (step (asked (.request ⟨0x00000009, 100, []⟩) up)), by rfl, by decide +kernel⟩⟩

/-- The closing flag of RR with N(R) 0 at a block whose slot numbered 7 is sent. -/
def acked : State := busyRx (.rxPut [0x7E]) (received [0xFF, 0x01, 0xD1, 0x0E] mixed)

theorem witness_OnlyFramesAcknowledge :
    ∃ s : State, ∃ t i, PortsLegal s ∧ step s = .next t ∧ (s.slot i).state ≠ .acked ∧ (t.slot i).state = .acked := by
  refine ⟨acked, next (step acked), 3, ⟨?_, ⟨fun d => Cmd.noConfusion, fun p t g => Cmd.noConfusion⟩,
    ⟨fun n d e => Cmd.noConfusion, fun p t g => Cmd.noConfusion⟩⟩, by rfl, by decide +kernel, by decide +kernel⟩
  intro q hq
  have h : q.cmd = .idle := by revert q; decide +kernel
  rw [h]
  exact ⟨fun n d e => Cmd.noConfusion, fun d => Cmd.noConfusion⟩

end Sys2Proof.Tests
end

/-! ## Storage through every step (R49, R100) -/

namespace Sys2Proof.Machine

/-- A property of every slot, after a change of slot `i`. -/
theorem State.forall_modSlot {Q : Slot → Prop} (s : State) (i : Nat) (f : Slot → Slot) (hf : Q (s.slot i) → Q (f (s.slot i)))
    (h : ∀ x ∈ s.ring.slots, Q x) : ∀ x ∈ (s.modSlot i f).ring.slots, Q x := by
  intro x hx
  obtain ⟨j, hj⟩ := List.mem_iff_getElem?.mp hx
  simp only [State.modSlot, State.modRing_ring, List.getElem?_modify, Option.map_eq_map, Option.map_eq_some_iff] at hj
  obtain ⟨y, hy, rfl⟩ := hj
  have hQ : Q y := h y (List.mem_of_getElem? hy)
  split_ifs with hij
  · subst hij
    have : s.slot i = y := by simp [State.slot, hy]
    exact this ▸ hf (this ▸ hQ)
  · exact hQ

/-- A property of every slot, after a marking. -/
theorem State.forall_markSlots {Q : Slot → Prop} (s : State) (p : Slot → Bool) (st : SlotState)
    (hf : ∀ x, p x = true → Q x → Q { x with state := st }) (h : ∀ x ∈ s.ring.slots, Q x) :
    ∀ x ∈ (s.markSlots p st).ring.slots, Q x := by
  intro x hx
  obtain ⟨y, hy, rfl⟩ := List.mem_map.mp hx
  split_ifs with hp
  · exact hf y hp (h y hy)
  · exact h y hy

theorem Slot.not_free_of_isSent {x : Slot} (h : x.isSent = true) : x.state ≠ .free := by
  rcases x.isSent_iff.mp h with h | h <;> simp [h]

theorem Slot.not_free_of_isPending {x : Slot} (h : x.isPending = true) : x.state ≠ .free := by
  rcases x.isPending_iff.mp h with h | h | h <;> simp [h]

/-- The ring after ResetSeq and EnterConnected. -/
theorem connect_ring (s : State) : (enterConnected (resetSeq s)).ring = (s.markSlots Slot.isSent .failed).ring := rfl

/-- The slots after one round of DeliverCompletions. -/
theorem deliverHead_slots (s : State) :
    (deliverHead s).ring.slots = (s.modSlot s.ring.head.toNat Slot.freed).ring.slots := by
  simp [deliverHead, State.modSlot]

/-- The encoder after one round of DeliverCompletions: its slot tag may be dropped. -/
theorem deliverHead_enc (s : State) :
    (deliverHead s).enc =
      { s.enc with txfSlotValid := s.enc.txfSlotValid && !decide (s.enc.txfSlot = s.ring.head) } := by
  simp [deliverHead]

@[simp] theorem deliverHead_dec (s : State) : (deliverHead s).dec = s.dec := by simp [deliverHead]

/-- What a property of each slot, of the decoder and of the encoder must be closed under, to be kept by every step. -/
structure StorageRule (Q : Slot → Prop) (D : Decoder → Prop) (E : Encoder → Prop) : Prop where
  slotReset : Q Slot.reset
  /-- An occupied slot keeps its payload, whatever else of it changes. -/
  slotMoves : ∀ x y, x.state ≠ .free → y.len = x.len → y.ram = x.ram → Q x → Q y
  slotFreed : ∀ x, Q x → Q x.freed
  /-- A payload is written to a slot (R305). -/
  slotFilled : ∀ x y (p : List Byte), y.len = BitVec.ofNat 16 p.length → y.ram = memWrite x.ram 0 p → Q x → Q y
  decReset : D Decoder.reset
  decState : ∀ d x, D d → D { d with state := x }
  decClear : ∀ d, D d → D d.clear
  decPush : ∀ d v, D d → D (d.push v)
  encReset : E Encoder.reset
  /-- The frame in TxBuf is as it was, and an idle encoder is not started on it. -/
  encMoves : ∀ e e' : Encoder, (e'.phase ≠ .idle → e.phase ≠ .idle) → e'.buf = e.buf → e'.txfBytes = e.txfBytes → E e → E e'
  /-- A frame has just been written to TxBuf (R274). -/
  encStaged : ∀ (e e' : Encoder) (frame : List Byte), e'.buf = (e.stage frame).buf → e'.txfBytes = (e.stage frame).txfBytes →
    E e → E e'

/-- The storage of every slot, of the decoder and of the encoder has its property. -/
structure StorageHas (Q : Slot → Prop) (D : Decoder → Prop) (E : Encoder → Prop) (s : State) : Prop where
  slots : ∀ x ∈ s.ring.slots, Q x
  dec : D s.dec
  enc : E s.enc

section

variable {Q : Slot → Prop} {D : Decoder → Prop} {E : Encoder → Prop} (r : StorageRule Q D E)

include r

/-- The slots after INIT, CLOSE phase 2 and hardware reset. -/
theorem StorageRule.ringReset : ∀ x ∈ Ring.reset.slots, Q x := fun _ hx => List.eq_of_mem_replicate hx ▸ r.slotReset

/-- A slot that is occupied keeps its property when it moves on. -/
theorem StorageRule.modSlot {s : State} {i : Nat} {f : Slot → Slot} (ho : (s.slot i).state ≠ .free)
    (hl : (f (s.slot i)).len = (s.slot i).len) (hr : (f (s.slot i)).ram = (s.slot i).ram) (h : ∀ x ∈ s.ring.slots, Q x) :
    ∀ x ∈ (s.modSlot i f).ring.slots, Q x :=
  s.forall_modSlot i f (r.slotMoves _ _ ho hl hr) h

/-- Slots that are occupied keep their property when they are marked. -/
theorem StorageRule.markSlots {s : State} {p : Slot → Bool} {st : SlotState} (hp : ∀ x : Slot, p x = true → x.state ≠ .free)
    (h : ∀ x ∈ s.ring.slots, Q x) : ∀ x ∈ (s.markSlots p st).ring.slots, Q x :=
  s.forall_markSlots p st (fun x hx => r.slotMoves x _ (hp x hx) rfl rfl) h

/-- The slots after one round of ProcessNR. -/
theorem StorageRule.ackOne {s : State} (h : ∀ x ∈ s.ring.slots, Q x) : ∀ x ∈ (ackOne s).ring.slots, Q x := by
  unfold Machine.ackOne
  split
  · next i hi =>
    obtain ⟨_, _, _, hsent, _⟩ := s.firstSlot_split _ i hi
    exact r.modSlot (Slot.not_free_of_isSent hsent) rfl rfl h
  · exact h

/-- The storage after ResetSeq and EnterConnected. -/
theorem StorageRule.connect {s : State} (h : StorageHas Q D E s) : StorageHas Q D E (enterConnected (resetSeq s)) := by
  refine ⟨?_, by simpa using h.dec, by simpa using h.enc⟩
  rw [connect_ring]
  exact r.markSlots (fun _ => Slot.not_free_of_isSent) h.slots

/-- A property of the storage that follows the rule is kept by every step. -/
theorem StorageRule.kept : Kept (StorageHas Q D E) where
  block _ _ hb h := ⟨hb.ring ▸ h.slots, hb.dec ▸ h.dec, hb.enc ▸ h.enc⟩
  flags _ _ h := ⟨h.slots, h.dec, h.enc⟩
  times _ _ h := ⟨h.slots, h.dec, h.enc⟩
  counters _ _ _ h := ⟨h.slots, h.dec, h.enc⟩
  moves _ _ _ _ _ h := ⟨h.slots, h.dec, h.enc⟩
  fails _ _ h := ⟨r.markSlots (fun _ => Slot.not_free_of_isPending) h.slots, h.dec, h.enc⟩
  window _ _ _ h := ⟨h.slots, h.dec, h.enc⟩
  tag s _ _ h := ⟨h.slots, h.dec, r.encMoves s.enc _ id rfl rfl h.enc⟩
  builds s _ _ _ h := ⟨h.slots, h.dec, r.encStaged s.enc _ _ rfl rfl h.enc⟩
  starts s _ _ _ h := ⟨h.slots, h.dec, r.encStaged s.enc _ _ rfl rfl h.enc⟩
  sendsNew s i _ hi _ h := by
    obtain ⟨_, _, _, hq, _⟩ := s.firstSlot_split _ i hi
    have ho : (s.slot i).state ≠ .free := by simp [of_decide_eq_true hq]
    exact ⟨r.modSlot (s := s.modWin _) ho rfl rfl h.slots, h.dec, h.enc⟩
  resends s i _ hi h := by
    obtain ⟨_, _, _, hx, _⟩ := s.firstSlot_split _ i hi
    have ho : (s.slot i).state ≠ .free := by
      simp [((s.slotExpired_iff _).mp (Bool.and_eq_true_iff.mp hx).1).1]
    exact ⟨r.modSlot ho rfl rfl h.slots, h.dec, h.enc⟩
  polls _ _ _ h := ⟨h.slots, h.dec, h.enc⟩
  encodes s f hp hf h := ⟨h.slots, h.dec, r.encMoves s.enc _ (fun _ => hp) (hf _).1 (hf _).2 h.enc⟩
  awaits s i hi h := ⟨r.modSlot (by simp [hi]) rfl rfl h.slots, h.dec, h.enc⟩
  frees s _ _ h := by
    refine ⟨?_, by simpa using h.dec, r.encMoves s.enc _ ?_ ?_ ?_ h.enc⟩
    · rw [deliverHead_slots]; exact s.forall_modSlot _ _ (r.slotFreed _) h.slots
    all_goals simp [deliverHead_enc, Encoder.txfBytes]
  credits _ h := ⟨h.slots, h.dec, h.enc⟩
  connects s _ h := r.connect h
  reconnects s _ h :=
    r.connect (s := failPending s) ⟨r.markSlots (s := s) (fun _ => Slot.not_free_of_isPending) h.slots, h.dec, h.enc⟩
  acks s _ _ h := ⟨r.ackOne h.slots, by simpa using h.dec, by simpa using h.enc⟩
  rewinds s _ h := ⟨r.markSlots (s := s) (fun _ => Slot.not_free_of_isSent) h.slots, h.dec, h.enc⟩
  decState _ _ h := ⟨h.slots, r.decState _ _ h.dec, h.enc⟩
  decClear _ h := ⟨h.slots, r.decClear _ h.dec, h.enc⟩
  stores _ _ _ h := ⟨h.slots, r.decPush _ _ h.dec, h.enc⟩
  writes _ _ h := ⟨h.slots, h.dec, h.enc⟩
  kaTimeout _ _ _ h := ⟨h.slots, h.dec, h.enc⟩
  closes _ _ h := ⟨h.slots, h.dec, h.enc⟩
  inits _ _ _ _ := ⟨r.ringReset, r.decReset, r.encReset⟩
  enqueues s p _ _ h := ⟨s.forall_modSlot _ _ (r.slotFilled _ _ p rfl rfl) h.slots, h.dec, h.enc⟩
  ends _ _ := ⟨r.ringReset, r.decReset, r.encReset⟩
  resets _ _ := ⟨r.ringReset, r.decReset, r.encReset⟩

end

/-- Canonical form follows the rule. -/
theorem canonical_storageRule : StorageRule (fun x => x.ram.wf = true) (fun d => d.buf.wf = true) (fun e => e.buf.wf = true) where
  slotReset := rfl
  slotMoves _ _ _ _ hr h := hr ▸ h
  slotFreed _ h := h
  slotFilled _ _ _ _ hr h := hr ▸ memWrite_wf _ _ _ h
  decReset := rfl
  decState _ _ h := h
  decClear _ h := h
  decPush _ _ h := Memory.wf_write _ _ _ h
  encReset := rfl
  encMoves _ _ _ hb _ h := hb ▸ h
  encStaged _ _ _ hb _ h := hb ▸ memWrite_wf _ _ _ h

theorem ramCanonical_iff (s : State) :
    RamCanonical s ↔ StorageHas (fun x => x.ram.wf = true) (fun d => d.buf.wf = true) (fun e => e.buf.wf = true) s :=
  ⟨fun ⟨hs, hd, he⟩ => ⟨hs, hd, he⟩, fun ⟨hs, hd, he⟩ => ⟨hs, hd, he⟩⟩

/-- The payload of a slot that is not FREE has been written. -/
def Slot.PayloadWritten (x : Slot) : Prop := x.state ≠ .free → x.ram.Written x.len.toNat

/-- The bytes of the frame in progress have been written. -/
def Decoder.FrameWritten (d : Decoder) : Prop := d.buf.Written d.stored

/-- The frame that an encoder emits has been written. -/
def Encoder.FrameWritten (e : Encoder) : Prop := e.phase ≠ .idle → e.buf.Written e.txfBytes

/-- A staged frame's length is never more than its number of bytes, whatever that is. -/
theorem Encoder.stage_txfBytes_le (e : Encoder) (frame : List Byte) : (e.stage frame).txfBytes ≤ frame.length := by
  show wide (BitVec.ofNat 16 frame.length) (decide (65536 ≤ frame.length)) ≤ frame.length
  unfold wide
  rw [BitVec.toNat_ofNat]
  by_cases h : 65536 ≤ frame.length <;> simp [h] <;> omega

/-- What may be read being written follows the rule. -/
theorem written_storageRule : StorageRule Slot.PayloadWritten Decoder.FrameWritten Encoder.FrameWritten where
  slotReset h := absurd rfl h
  slotMoves x y hx hl hr h _ := by rw [hl, hr]; exact h hx
  slotFreed _ _ h := absurd rfl h
  slotFilled x y p hl hr _ _ := by
    rw [hl, hr]
    exact (memWrite_written p x.ram).mono (by simpa using Nat.mod_le _ _)
  decReset _ ha := absurd ha (Nat.not_lt_zero _)
  decState _ _ h := h
  decClear _ _ _ ha := absurd ha (Nat.not_lt_zero _)
  decPush d v h := (Memory.Written.write_next _ _ v h).mono (d.push_stored_le v)
  encReset h := absurd rfl h
  encMoves e e' hp hb hl h hi := by rw [hb, hl]; exact h (hp hi)
  encStaged e e' frame hb hl _ _ := by
    rw [hb, hl]
    exact (memWrite_written frame e.buf).mono (e.stage_txfBytes_le frame)

theorem ramWritten_iff (s : State) :
    RamWritten s ↔ StorageHas Slot.PayloadWritten Decoder.FrameWritten Encoder.FrameWritten s :=
  ⟨fun ⟨hs, hd, he⟩ => ⟨hs, hd, he⟩, fun ⟨hs, hd, he⟩ => ⟨hs, hd, he⟩⟩

/-- Settles O53: canonical form and written storage are both properties that follow `StorageRule`. -/
theorem storageKept : Obligations.StorageKept := by
  intro s t hstep
  rw [ramCanonical_iff, ramCanonical_iff, ramWritten_iff, ramWritten_iff]
  exact ⟨fun h => canonical_storageRule.kept.step h hstep, fun h => written_storageRule.kept.step h hstep⟩

end Sys2Proof.Machine

/-! ## Counters through every step (R36, R102) -/

namespace Sys2Proof.Machine

theorem keepAliveInv_of_zero {s : State} (h : s.ctr.kaUnanswered = 0) : KeepAliveInv s := by
  simp [KeepAliveInv, h]

/-- The keep-alive bound is kept: the count goes up only where it is at most `retries` (R313, R444), and INIT and CLOSE clear it
with the effective registers. -/
theorem keepAliveInv_kept : Kept KeepAliveInv where
  block _ _ hb h := by rw [KeepAliveInv, hb.ctr, hb.eff]; exact h
  flags _ _ h := h
  times _ _ h := h
  counters s f hf h := by rw [KeepAliveInv, State.modCtr_ctr, hf]; exact h
  moves _ _ _ _ _ h := h
  fails _ _ h := h
  window _ _ _ h := h
  tag _ _ _ h := h
  builds _ _ _ _ h := h
  starts _ _ _ _ h := h
  sendsNew _ _ _ _ _ h := h
  resends _ _ _ _ h := h
  polls s _ hle _ :=
    calc (s.ctr.kaUnanswered + 1).toNat ≤ s.ctr.kaUnanswered.toNat + 1 := by
          rw [BitVec.toNat_add]; exact Nat.mod_le _ _
      _ ≤ s.eff.retries.toNat + 1 := by omega
  encodes _ _ _ _ h := h
  awaits _ _ _ h := h
  frees s _ _ h := by simpa [KeepAliveInv, deliverHead] using h
  credits _ _ := keepAliveInv_of_zero rfl
  connects _ _ _ := keepAliveInv_of_zero rfl
  reconnects _ _ _ := keepAliveInv_of_zero rfl
  acks s _ _ h := by simpa [KeepAliveInv] using h
  rewinds _ _ h := h
  decState _ _ h := h
  decClear _ h := h
  stores _ _ _ h := h
  writes _ _ h := h
  kaTimeout _ _ _ h := h
  closes _ _ h := h
  inits _ _ _ _ := keepAliveInv_of_zero rfl
  enqueues _ _ _ _ h := h
  ends _ _ := keepAliveInv_of_zero rfl
  resets _ _ := keepAliveInv_of_zero rfl

theorem rxBoundInv_of_zero {s : State} (h : s.dec.stored = 0) : RxBoundInv s := by
  simp [RxBoundInv, h]

/-- The bound depends on the decoder's length and on the effective registers alone. -/
theorem RxBoundInv.congr {s t : State} (h : RxBoundInv s) (hd : t.dec.stored = s.dec.stored) (he : t.eff = s.eff) :
    RxBoundInv t := by
  rw [RxBoundInv, State.rxCapacity, hd, he]; exact h

/-- The frame in progress stays inside RxBuf: a byte is stored only where there is room (R243), and whatever changes the
capacity drops the frame. -/
theorem rxBoundInv_kept : Kept RxBoundInv where
  block _ _ hb h := h.congr (by rw [hb.dec]) hb.eff
  flags _ _ h := h
  times _ _ h := h
  counters _ _ _ h := h
  moves _ _ _ _ _ h := h
  fails _ _ h := h
  window _ _ _ h := h
  tag _ _ _ h := h
  builds _ _ _ _ h := h
  starts _ _ _ _ h := h
  sendsNew _ _ _ _ _ h := h
  resends _ _ _ _ h := h
  polls _ _ _ h := h
  encodes _ _ _ _ h := h
  awaits _ _ _ h := h
  frees _ _ _ h := h.congr (by simp) (by simp [deliverHead])
  credits _ h := h
  connects _ _ h := h.congr (by simp) (by simp)
  reconnects _ _ h := h.congr (by simp) (by simp)
  acks _ _ _ h := h.congr (by simp) (by simp)
  rewinds _ _ h := h
  decState _ _ h := h
  decClear _ _ := rxBoundInv_of_zero rfl
  stores s v hroom h := by
    have hlt : s.dec.stored < s.rxCapacity := Nat.lt_of_le_of_ne h hroom
    exact (s.dec.push_stored_le v).trans hlt
  writes _ _ h := h
  kaTimeout _ _ _ h := h
  closes _ _ h := h
  inits _ _ _ _ := rxBoundInv_of_zero rfl
  enqueues _ _ _ _ h := h
  ends _ _ := rxBoundInv_of_zero rfl
  resets _ _ := rxBoundInv_of_zero rfl

/-- Settles O55, part by part of a step, as `Kept` lists them. -/
theorem countersKept : Obligations.CountersKept :=
  fun _ _ hstep => ⟨fun h => keepAliveInv_kept.step h hstep, fun h => rxBoundInv_kept.step h hstep⟩

end Sys2Proof.Machine

/-! ## What one entry of the schedule can do -/

namespace Sys2Proof.Machine

/-- The ways a step leads from `s` to the state of the index: one case for each kind of schedule entry, and for a port that runs,
one for each thing it can do (R116, log 1). -/
inductive StepCase (s : State) : State → Prop
  /-- The schedule is empty. -/
  | rests (hticks : s.ticks = []) : StepCase s s
  /-- Hardware reset. -/
  | resets (now : Time) (rest : List Tick) (hticks : s.ticks = ⟨now, .reset⟩ :: rest) :
      StepCase s (hardwareReset { s with now := now, ticks := rest })
  /-- The host takes an event. -/
  | takesEvent (p : PortId) (now : Time) (rest : List Tick) : StepCase s (takeEvent p { s with now := now, ticks := rest })
  /-- A busy port goes on with its command. -/
  | continues (p : PortId) (now : Time) (rest : List Tick) (q : Port) (hrun : RunsNext p now rest q s) (hcmd : q.cmd ≠ .idle) :
      StepCase s (microStep q.cmd (sample p now rest s))
  /-- A host procedure goes on. -/
  | proceeds (p : PortId) (now : Time) (rest : List Tick) (pr : Proc) (reply : Option Response) :
      StepCase s (procStep pr reply (sample p now rest s))
  /-- An idle port has nothing to do. -/
  | waits (p : PortId) (now : Time) (rest : List Tick) : StepCase s (sample p now rest s)
  /-- An idle port turns a malformed request away. -/
  | rejects (p : PortId) (now : Time) (rest : List Tick) : StepCase s (refuse Res.invalidData (popQueue (sample p now rest s)))
  /-- An idle port accepts an instruction. -/
  | accepts (p : PortId) (now : Time) (rest : List Tick) (q : Port) (op : HostOp) (l : List HostOp) (i : Instr) (t : State)
      (hrun : RunsNext p now rest q s) (hidle : q.cmd = .idle) (hqueue : q.queue = op :: l) (hop : decodeOp op = some i)
      (hexec : exec i (popQueue (sample p now rest s)) = .next t) : StepCase s t

theorem runPort_cases {s t : State} {p : PortId} {now : Time} {rest : List Tick} {q : Port} (hrun : RunsNext p now rest q s)
    (h : runPort q (sample p now rest s) = .next t) : StepCase s t := by
  unfold runPort accept at h
  split at h
  · next hcmd => cases h; exact .continues p now rest q hrun hcmd
  · next hidle =>
    split at h
    · next pr _ => cases h; exact .proceeds p now rest pr q.reply
    · split at h
      · cases h; exact .waits p now rest
      · next op l hqueue =>
        split at h
        · cases h; exact .rejects p now rest
        · next i hop => exact .accepts p now rest q op l i t hrun (not_not.mp hidle) hqueue hop h

/-- Every step is one of the cases. -/
theorem step_cases {s t : State} (h : step s = .next t) : StepCase s t := by
  unfold step runTick at h
  split at h
  · next hticks => cases h; exact .rests hticks
  · next tick rest hticks =>
    obtain ⟨now, act⟩ := tick
    cases act with
    | run p =>
      dsimp only at h
      split at h
      · cases h
      · next q hq => exact runPort_cases ⟨hticks, hq⟩ h
    | takeEvent p =>
      dsimp only at h
      split at h
      · cases h
      · cases h; exact .takesEvent p now rest
    | reset => cases h; exact .resets now rest hticks

/-- What an operation of a host spells is a pseudo-operation, or what its request decodes to. -/
theorem decodeOp_cases {op : HostOp} {i : Instr} (h : decodeOp op = some i) :
    (∃ r, op = .request r ∧ decodeRequest r = .ok i) ∨ (∃ w, i = .runTx w) ∨ (∃ l, i = .runRx l) ∨ (∃ b, i = .send b) := by
  cases op with
  | request r =>
    simp only [decodeOp] at h
    split at h
    · next hd => cases h; exact .inl ⟨r, rfl, hd⟩
    · cases h
  | runTx w => cases h; exact .inr (.inl ⟨w, rfl⟩)
  | runRx l => cases h; exact .inr (.inr (.inl ⟨l, rfl⟩))
  | send b => cases h; exact .inr (.inr (.inr ⟨b, rfl⟩))

/-! ## Configuration and session through every step (R33, R39, R40) -/

/-- The parameters, the CFG and effective registers are the same, and whether there is a session. -/
structure SameConfig (s t : State) : Prop where
  params : t.params = s.params
  cfg : t.cfg = s.cfg
  eff : t.eff = s.eff
  uninit : t.fsm = .uninit ↔ s.fsm = .uninit

theorem SameConfig.of_fsm {s t : State} (hp : t.params = s.params) (hc : t.cfg = s.cfg) (he : t.eff = s.eff)
    (hf : t.fsm = s.fsm) : SameConfig s t := ⟨hp, hc, he, by rw [hf]⟩

/-- A move inside a session. -/
theorem SameConfig.of_session {s t : State} (hp : t.params = s.params) (hc : t.cfg = s.cfg) (he : t.eff = s.eff)
    (hs : s.fsm ≠ .uninit) (ht : t.fsm ≠ .uninit) : SameConfig s t := ⟨hp, hc, he, by simp [hs, ht]⟩

/-- Nothing on the TX and RX sides touches the configuration, or starts or ends a session. -/
theorem keptRx_of_sameConfig {P : State → Prop} (hP : ∀ s t, SameConfig s t → P s → P t) : KeptRx P where
  block s t hb := hP s t (.of_fsm hb.params hb.cfg hb.eff hb.fsm)
  flags _ _ := hP _ _ (.of_fsm rfl rfl rfl rfl)
  times _ _ := hP _ _ (.of_fsm rfl rfl rfl rfl)
  counters _ _ _ := hP _ _ (.of_fsm rfl rfl rfl rfl)
  moves _ _ hs hx _ := hP _ _ (.of_session rfl rfl rfl hs hx)
  fails _ _ := hP _ _ (.of_fsm rfl rfl rfl rfl)
  window _ _ _ := hP _ _ (.of_fsm rfl rfl rfl rfl)
  tag _ _ _ := hP _ _ (.of_fsm rfl rfl rfl rfl)
  builds _ _ _ _ := hP _ _ (.of_fsm rfl rfl rfl rfl)
  starts _ _ _ _ := hP _ _ (.of_fsm rfl rfl rfl rfl)
  sendsNew _ _ _ _ _ := hP _ _ (.of_fsm rfl rfl rfl rfl)
  resends _ _ _ _ := hP _ _ (.of_fsm rfl rfl rfl rfl)
  polls _ _ _ := hP _ _ (.of_fsm rfl rfl rfl rfl)
  encodes _ _ _ _ := hP _ _ (.of_fsm rfl rfl rfl rfl)
  awaits _ _ _ := hP _ _ (.of_fsm rfl rfl rfl rfl)
  frees s _ _ := hP _ _ (.of_fsm (by simp [deliverHead]) (by simp [deliverHead]) (by simp [deliverHead]) (by simp [deliverHead]))
  credits _ := hP _ _ (.of_fsm rfl rfl rfl rfl)
  connects _ hs := hP _ _ (.of_session (by simp) (by simp) (by simp) hs (by simp))
  reconnects _ hs := hP _ _ (.of_session (by simp) (by simp) (by simp) (by simp [hs]) (by simp))
  acks _ _ _ := hP _ _ (.of_fsm (by simp) (by simp) (by simp) (by simp))
  rewinds _ _ := hP _ _ (.of_fsm rfl rfl rfl rfl)
  decState _ _ := hP _ _ (.of_fsm rfl rfl rfl rfl)
  decClear _ := hP _ _ (.of_fsm rfl rfl rfl rfl)
  stores _ _ _ := hP _ _ (.of_fsm rfl rfl rfl rfl)

/-- No command but CLOSE, in its phase 2, ends a session. -/
theorem session_kept : KeptCmd (fun s => s.fsm ≠ .uninit) where
  toKeptRx := keptRx_of_sameConfig (fun _ _ hc h e => h (hc.uninit.mp e))
  writes _ _ h := h
  kaTimeout _ _ _ h := h
  closes _ _ h := h
  inits _ _ _ _ := by simp [freshSession]
  enqueues _ _ _ _ h := h

/-- A busy port keeps what every command keeps, but for CLOSE phase 2. -/
theorem KeptCmd.microStep {P : State → Prop} (k : KeptCmd P) {s : State} {c : Cmd} (hc : c ≠ .close) (h : P s) :
    P (microStep c s) := by
  cases c with
  | idle => exact h
  | txGet left dout ended => exact k.txGetStep left dout ended h
  | rxPut din => exact k.rxPutStep din h
  | sendPacket payload tIssue gen => exact k.sendPacketStep payload tIssue gen h
  | close => exact absurd rfl hc

theorem sample_sameBlock (p : PortId) (now : Time) (rest : List Tick) (s : State) : SameBlock s (sample p now rest s) :=
  ⟨rfl, rfl, rfl, rfl, rfl, rfl, rfl, rfl, rfl, rfl, rfl, rfl⟩

theorem popQueue_sameBlock (s : State) : SameBlock s (popQueue s) := s.modPort_sameBlock _ _

/-- The state in which a waiting instruction is accepted. -/
theorem popQueue_sample_sameBlock (p : PortId) (now : Time) (rest : List Tick) (s : State) :
    SameBlock s (popQueue (sample p now rest s)) := (sample_sameBlock p now rest s).trans (popQueue_sameBlock _)

theorem takeEvent_sameBlock (p : PortId) (now : Time) (rest : List Tick) (s : State) :
    SameBlock s (takeEvent p { s with now := now, ticks := rest }) :=
  (sample_sameBlock s.port now rest s).trans (State.modPort_sameBlock _ _ _)

/-- What every command keeps is kept by every step but hardware reset and CLOSE phase 2. -/
theorem KeptCmd.step {P : State → Prop} (k : KeptCmd P) {s t : State} (h : P s) (hstep : step s = .next t) :
    P t ∨
    (∃ now rest, s.ticks = ⟨now, .reset⟩ :: rest ∧ t = hardwareReset { s with now := now, ticks := rest }) ∨
    (∃ p now rest q, RunsNext p now rest q s ∧ q.cmd = .close ∧ t = closePhase2 (sample p now rest s)) := by
  have hsample : ∀ p now rest, P (sample p now rest s) := fun p now rest => k.block _ _ (sample_sameBlock p now rest s) h
  cases step_cases hstep with
  | rests _ => exact .inl h
  | resets now rest hticks => exact .inr (.inl ⟨now, rest, hticks, rfl⟩)
  | takesEvent p now rest => exact .inl (k.block _ _ (takeEvent_sameBlock p now rest s) h)
  | continues p now rest q hrun _ =>
    by_cases hc : q.cmd = .close
    · exact .inr (.inr ⟨p, now, rest, q, hrun, hc, by rw [hc]; rfl⟩)
    · exact .inl (k.microStep hc (hsample p now rest))
  | proceeds p now rest pr reply => exact .inl (k.procStep pr reply (hsample p now rest))
  | waits p now rest => exact .inl (hsample p now rest)
  | rejects p now rest => exact .inl (k.refuse _ (k.modPort _ _ (hsample p now rest)))
  | accepts p now rest q op l i u _ _ _ _ hexec =>
    obtain ⟨v, hv, hPv⟩ := k.exec i (k.modPort _ _ (hsample p now rest))
    cases hexec.symm.trans hv
    exact .inl hPv

/-- Settles O58: every command but CLOSE phase 2 keeps the session. -/
theorem onlyCloseEndsSession : Obligations.OnlyCloseEndsSession := by
  intro s t hstep hs ht
  rcases session_kept.step hs hstep with h | ⟨now, rest, hticks, _⟩ | ⟨p, now, rest, q, hrun, hc, _⟩
  · exact absurd ht h
  · exact .inl ⟨now, rest, hticks⟩
  · exact .inr ⟨p, now, rest, q, hrun, hc⟩

/-! ## Who writes the configuration (R115, R583) -/

/-- Sending, receiving and waiting change no configuration register. -/
theorem config_keptRx (c : Cfg) (e : Eff) : KeptRx (fun s => s.cfg = c ∧ s.eff = e) :=
  keptRx_of_sameConfig (fun _ _ hc ⟨h1, h2⟩ => ⟨hc.cfg.trans h1, hc.eff.trans h2⟩)

/-- CLOSE phase 2 keeps, before the session ends, what an event keeps. -/
theorem closeEvents_keeps {P : State → Prop} (hP : ∀ t p ev, P t → P (emit p ev t)) {s : State} (h : P s) :
    P (closeEvents s) := by
  unfold closeEvents
  generalize s.ringOrder = l
  suffices H : ∀ u, P u → P (l.foldl (fun t i => emit s.port (s.sentEvent i) t) u) from H s h
  induction l with
  | nil => exact fun _ hu => hu
  | cons i l ih => exact fun u hu => ih _ (hP u _ _ hu)

theorem closeEvents_sameBlock (s : State) : SameBlock s (closeEvents s) :=
  closeEvents_keeps (fun t p _ ht => ht.trans (t.modPort_sameBlock p _)) (.refl s)

theorem closePhase2_cfg (s : State) : (closePhase2 s).cfg = s.cfg := by
  unfold closePhase2
  split
  · rfl
  · simpa [endSession] using (closeEvents_sameBlock s).cfg

/-- The command of a busy port writes no configuration register, but for CLOSE phase 2. -/
theorem microStep_config {s : State} {c : Cmd} (hc : c ≠ .close) :
    (microStep c s).cfg = s.cfg ∧ (microStep c s).eff = s.eff := by
  have k := config_keptRx s.cfg s.eff
  cases c with
  | idle => exact ⟨rfl, rfl⟩
  | txGet left dout ended => exact k.txGetStep left dout ended ⟨rfl, rfl⟩
  | rxPut din => exact k.rxPutStep din ⟨rfl, rfl⟩
  | sendPacket payload tIssue gen =>
    simp only [microStep, sendPacketStep]
    split_ifs <;> simp
  | close => exact absurd rfl hc

theorem microStep_cfg (s : State) (c : Cmd) : (microStep c s).cfg = s.cfg := by
  by_cases hc : c = .close
  · subst hc; exact closePhase2_cfg s
  · exact (microStep_config hc).1

theorem inSession_cfg {k : State → State} {s : State} (h : (k s).cfg = s.cfg) : (inSession k s).cfg = s.cfg := by
  unfold inSession; split <;> simp [h]

theorem inSession_eff {k : State → State} {s : State} (h : (k s).eff = s.eff) : (inSession k s).eff = s.eff := by
  unfold inSession; split <;> simp [h]

theorem cmdInit_cfg (s : State) : (cmdInit s).cfg = s.cfg := by
  unfold cmdInit; split_ifs <;> simp [freshSession]

theorem cmdClose_cfg (s : State) : (cmdClose s).cfg = s.cfg := by
  apply inSession_cfg; split <;> simp

theorem cmdClose_eff (s : State) : (cmdClose s).eff = s.eff := by
  apply inSession_eff; split <;> simp

theorem cmdSetKaTimeout_cfg (ms : Time) (s : State) : (cmdSetKaTimeout ms s).cfg = s.cfg := by
  apply inSession_cfg; simp

theorem cmdWriteReg_eff (n : Byte) (v : Word) (s : State) : (cmdWriteReg n v s).eff = s.eff := by
  unfold cmdWriteReg; split <;> simp

/-- The instructions that write a configuration register: WRITE_REG the CFG ones, INIT and SET_KA_TIMEOUT the effective ones. -/
theorem exec_config {i : Instr} {s t : State} (h : exec i s = .next t) :
    (t.cfg = s.cfg ∨ ∃ n v, i = .writeReg n v) ∧ (t.eff = s.eff ∨ i = .init ∨ ∃ ms, i = .setKaTimeout ms) := by
  have k := config_keptRx s.cfg s.eff
  have same : ∀ {u : State}, u.cfg = s.cfg ∧ u.eff = s.eff → Host.Outcome.next u = exec i s →
      (t.cfg = s.cfg ∨ ∃ n v, i = .writeReg n v) ∧ (t.eff = s.eff ∨ i = .init ∨ ∃ ms, i = .setKaTimeout ms) := by
    intro u hu hiu
    cases hiu.trans h
    exact ⟨.inl hu.1, .inl hu.2⟩
  cases i
  case init => cases h; exact ⟨.inl (cmdInit_cfg s), .inr (.inl rfl)⟩
  case close => exact same ⟨cmdClose_cfg s, cmdClose_eff s⟩ rfl
  case setKaTimeout ms => cases h; exact ⟨.inl (cmdSetKaTimeout_cfg ms s), .inr (.inr ⟨ms, rfl⟩)⟩
  case writeReg n v => cases h; exact ⟨.inr ⟨n, v, rfl⟩, .inl (cmdWriteReg_eff n v s)⟩
  case status => exact same (k.cmdStatus ⟨rfl, rfl⟩) rfl
  case disconnect => exact same (k.cmdDisconnect ⟨rfl, rfl⟩) rfl
  case txGet n => exact same (k.cmdTxGet n ⟨rfl, rfl⟩) rfl
  case rxPut d => exact same (k.cmdRxPut d ⟨rfl, rfl⟩) rfl
  case sendPacket p => exact same (k.cmdSendPacket p ⟨rfl, rfl⟩) rfl
  case getMtu => exact same (k.cmdGetMtu ⟨rfl, rfl⟩) rfl
  case bufferSize m w c => exact same (k.cmdBufferSize m w c ⟨rfl, rfl⟩) rfl
  case readReg n => exact same (k.cmdReadReg n ⟨rfl, rfl⟩) rfl
  case runTx w => exact same (k.setProc (.runTxGet 0 w) ⟨rfl, rfl⟩) rfl
  case runRx l => exact same (k.setProc (.runRxRead 0 l) ⟨rfl, rfl⟩) rfl
  case send b => exact same (k.setProc (.sendMtu b) ⟨rfl, rfl⟩) rfl
  case iFrame ns pf nr => exact same (k.receive (.iFrame ns pf nr) ⟨rfl, rfl⟩) rfl
  case rr pf nr => exact same (k.receive (.rr pf nr) ⟨rfl, rfl⟩) rfl
  case rej pf nr => exact same (k.receive (.rej pf nr) ⟨rfl, rfl⟩) rfl
  case rnr pf nr => exact same (k.receive (.rnr pf nr) ⟨rfl, rfl⟩) rfl
  case sReserved pf nr => exact same (k.receive (.sReserved pf nr) ⟨rfl, rfl⟩) rfl
  case sabm => exact same (k.receive .sabm ⟨rfl, rfl⟩) rfl
  case ua => exact same (k.receive .ua ⟨rfl, rfl⟩) rfl
  case disc => exact same (k.receive .disc ⟨rfl, rfl⟩) rfl
  case frmr => exact same (k.receive .frmr ⟨rfl, rfl⟩) rfl
  case uReserved c => exact same (k.receive (.uReserved c) ⟨rfl, rfl⟩) rfl

/-- What wrote a configuration register that a step has changed, case by case of the step: `microStep_config` for a busy port,
`exec_config` for an accepted request. -/
theorem step_config {s t : State} (hstep : step s = .next t) :
    (t.cfg = s.cfg ∨ (∃ now rest, s.ticks = ⟨now, .reset⟩ :: rest) ∨
      (∃ p now rest q r l n v, RunsNext p now rest q s ∧ q.cmd = .idle ∧ q.queue = .request r :: l ∧
        decodeRequest r = .ok (.writeReg n v))) ∧
    (t.eff = s.eff ∨ (∃ now rest, s.ticks = ⟨now, .reset⟩ :: rest) ∨
      (∃ p now rest q, RunsNext p now rest q s ∧ q.cmd = .close) ∨
      (∃ p now rest q r l ms, RunsNext p now rest q s ∧ q.cmd = .idle ∧ q.queue = .request r :: l ∧
        (decodeRequest r = .ok .init ∨ decodeRequest r = .ok (.setKaTimeout ms)))) := by
  have k := config_keptRx s.cfg s.eff
  cases step_cases hstep with
  | rests _ => exact ⟨.inl rfl, .inl rfl⟩
  | resets now rest hticks => exact ⟨.inr (.inl ⟨now, rest, hticks⟩), .inr (.inl ⟨now, rest, hticks⟩)⟩
  | takesEvent p now rest =>
    have hb := takeEvent_sameBlock p now rest s
    exact ⟨.inl hb.cfg, .inl hb.eff⟩
  | continues p now rest q hrun _ =>
    refine ⟨.inl (microStep_cfg _ _), ?_⟩
    by_cases hc : q.cmd = .close
    · exact .inr (.inr (.inl ⟨p, now, rest, q, hrun, hc⟩))
    · exact .inl (microStep_config hc).2
  | proceeds p now rest pr reply =>
    have h := k.procStep pr reply (s := sample p now rest s) ⟨rfl, rfl⟩
    exact ⟨.inl h.1, .inl h.2⟩
  | waits p now rest => exact ⟨.inl rfl, .inl rfl⟩
  | rejects p now rest =>
    have hb := popQueue_sample_sameBlock p now rest s
    exact ⟨.inl (by simpa using hb.cfg), .inl (by simpa using hb.eff)⟩
  | accepts p now rest q op l i u hrun hidle hqueue hop hexec =>
    have hb := popQueue_sample_sameBlock p now rest s
    obtain ⟨hcfg, heff⟩ := exec_config hexec
    rw [hb.cfg] at hcfg
    rw [hb.eff] at heff
    refine ⟨hcfg.imp_right ?_, heff.imp_right ?_⟩
    · rintro ⟨n, v, rfl⟩
      obtain ⟨r, rfl, hr⟩ : ∃ r, op = .request r ∧ decodeRequest r = .ok (.writeReg n v) := by
        simpa using decodeOp_cases hop
      exact .inr ⟨p, now, rest, q, r, l, n, v, hrun, hidle, hqueue, hr⟩
    · rintro (rfl | ⟨ms, rfl⟩)
      · obtain ⟨r, rfl, hr⟩ : ∃ r, op = .request r ∧ decodeRequest r = .ok .init := by
          simpa using decodeOp_cases hop
        exact .inr (.inr ⟨p, now, rest, q, r, l, 0, hrun, hidle, hqueue, .inl hr⟩)
      · obtain ⟨r, rfl, hr⟩ : ∃ r, op = .request r ∧ decodeRequest r = .ok (.setKaTimeout ms) := by
          simpa using decodeOp_cases hop
        exact .inr (.inr ⟨p, now, rest, q, r, l, ms, hrun, hidle, hqueue, .inr hr⟩)

/-- Settles O59: `step_config` names what may have written the register. -/
theorem onlyWriteRegWritesCfg : Obligations.OnlyWriteRegWritesCfg := by
  intro s t hstep
  obtain ⟨hcfg, heff⟩ := step_config hstep
  exact ⟨hcfg.resolve_left, heff.resolve_left⟩

end Sys2Proof.Machine

/-! ## What INIT establishes of the effective registers (R40, R445, R446, R471) -/

namespace Sys2Proof.Machine

theorem EffInv.of_sameConfig {s t : State} (hc : SameConfig s t) (h : EffInv s) : EffInv t where
  crcLen := by rw [State.crcKind, hc.eff]; exact h.crcLen
  mtu ht := by rw [hc.eff, hc.params]; exact h.mtu (fun hs => ht (hc.uninit.mpr hs))
  window ht := by rw [State.w, hc.eff]; exact h.window (fun hs => ht (hc.uninit.mpr hs))
  retry ht := by rw [hc.eff]; exact h.retry (fun hs => ht (hc.uninit.mpr hs))
  defer ht := by rw [hc.eff]; exact h.defer (fun hs => ht (hc.uninit.mpr hs))

/-- Without a session, the reset values meet the invariant. -/
theorem EffInv.of_uninit {s : State} (he : s.eff = Eff.reset) (hf : s.fsm = .uninit) : EffInv s where
  crcLen := by rw [State.crcKind, he]; rfl
  mtu h := absurd hf h
  window h := absurd hf h
  retry h := absurd hf h
  defer h := absurd hf h

theorem CrcKind.len_le (k : CrcKind) : k.len ≤ 4 := by cases k <;> simp [CrcKind.len]

/-- The code that INIT latches is of the same kind, and is not the 0 of UNINIT (R207, log 22). -/
theorem crcResolve_kind {code : Byte} (h : (crcKindOf code).isSome = true) :
    crcResolve code ≠ 0x00#8 ∧ crcKindOf (crcResolve code) = crcKindOf code := by
  unfold crcResolve
  split_ifs with hz
  · subst hz; exact ⟨by decide, rfl⟩
  · exact ⟨hz, rfl⟩

/-- What INIT's checks say of the registers (R471). -/
theorem Cfg.legal_spec {p : Params} {c : Cfg} (h : c.legal p = true) :
    1 ≤ c.mtu.toNat ∧ c.mtu.toNat ≤ p.mtuMax ∧ 1 ≤ c.window.toNat ∧ (crcKindOf c.crc).isSome = true ∧
      c.initRetryTimeout ≠ 0 := by
  simp only [Cfg.legal, Bool.and_eq_true, decide_eq_true_eq] at h
  obtain ⟨⟨⟨⟨⟨hmtu, hmax⟩, hw⟩, hcrc⟩, hretry⟩, _⟩ := h
  exact ⟨hmtu, hmax, hw, hcrc, hretry⟩

/-- INIT latches at most half of the retry timeout (R446). -/
theorem Cfg.initAckDefer_le (c : Cfg) : c.initAckDefer.toNat ≤ c.initRetryTimeout.toNat / 2 := by
  unfold Cfg.initAckDefer
  split_ifs with h
  · exact h
  · rw [BitVec.toNat_ofNat]; exact Nat.mod_le _ _

theorem effInv_freshSession {s : State} (h : s.cfg.legal s.params = true) : EffInv (freshSession s) := by
  obtain ⟨hmtu, hmax, hw, hcrc, hretry⟩ := Cfg.legal_spec h
  obtain ⟨hne, hkind⟩ := crcResolve_kind hcrc
  refine ⟨?_, fun _ => ⟨hmtu, hmax⟩, fun _ => hw, fun _ => hretry, fun _ => s.cfg.initAckDefer_le⟩
  have hle := ((crcKindOf s.cfg.crc).getD .none).len_le
  simp only [State.crcKind, freshSession, Cfg.latch, hne, hkind, if_false, BitVec.toNat_ofNat]
  omega

/-- What INIT establishes of the effective registers is kept. -/
theorem effInv_kept : Kept EffInv where
  toKeptRx := keptRx_of_sameConfig (fun _ _ => EffInv.of_sameConfig)
  writes _ _ h := ⟨h.crcLen, h.mtu, h.window, h.retry, h.defer⟩
  kaTimeout _ _ _ h := ⟨h.crcLen, h.mtu, h.window, h.retry, h.defer⟩
  closes _ _ h := ⟨h.crcLen, h.mtu, h.window, h.retry, h.defer⟩
  inits _ _ hlegal _ := effInv_freshSession hlegal
  enqueues _ _ _ _ h := ⟨h.crcLen, h.mtu, h.window, h.retry, h.defer⟩
  ends _ _ := .of_uninit rfl rfl
  resets _ _ := .of_uninit rfl rfl

/-! ## The commands that the ports carry -/

/-- The command that a port carries, where the block has the port. -/
def State.cmd? (s : State) (p : PortId) : Option Cmd := (s.port? p).map Port.cmd

/-- Does a port accept this command (R132)? Idle ports and CLOSE are everywhere. -/
def PortId.Accepts (p : PortId) : Cmd → Prop
  | .idle => True
  | .txGet _ _ _ => p = .txp
  | .rxPut _ => p = .rxp
  | .sendPacket _ _ _ => p.isApp = true
  | .close => True

/-- Is this command none of those that stop CLOSE phase 2 (R473)? -/
def PortId.AcceptsQuiet (p : PortId) : Cmd → Prop
  | .idle => True
  | .txGet _ _ _ => False
  | .rxPut _ => False
  | .sendPacket _ _ _ => p.isApp = true
  | .close => True

/-- Every port carries a command with the property `A`. -/
def CmdsAre (A : PortId → Cmd → Prop) (s : State) : Prop := ∀ p c, s.cmd? p = some c → A p c

theorem portsLegal_iff (s : State) : PortsLegal s ↔ CmdsAre PortId.Accepts s := by
  constructor
  · rintro ⟨happs, ⟨htr, hts⟩, ⟨hrt, hrs⟩⟩ p c hc
    obtain ⟨q, hq, rfl⟩ := Option.map_eq_some_iff.mp hc
    cases p with
    | txp => cases hq; cases hcmd : s.txp.cmd <;> simp_all [PortId.Accepts]
    | rxp => cases hq; cases hcmd : s.rxp.cmd <;> simp_all [PortId.Accepts]
    | app n =>
      obtain ⟨hat, har⟩ := happs q (List.mem_of_getElem? hq)
      cases hcmd : q.cmd <;> simp_all [PortId.Accepts, PortId.isApp]
  · intro h
    have happs : ∀ q ∈ s.apps, ∃ n, PortId.Accepts (.app n) q.cmd := by
      intro q hq
      obtain ⟨n, hn⟩ := List.mem_iff_getElem?.mp hq
      exact ⟨n, h (.app n) q.cmd (by simp [State.cmd?, State.port?, hn])⟩
    have htxp : PortId.Accepts .txp s.txp.cmd := h .txp _ rfl
    have hrxp : PortId.Accepts .rxp s.rxp.cmd := h .rxp _ rfl
    refine ⟨fun q hq => ?_, ⟨?_, ?_⟩, ⟨?_, ?_⟩⟩
    · obtain ⟨n, hn⟩ := happs q hq
      constructor
      · intro _ _ _ e; simp [e, PortId.Accepts] at hn
      · intro _ e; simp [e, PortId.Accepts] at hn
    · intro _ e; simp [e, PortId.Accepts] at htxp
    · intro _ _ _ e; simp [e, PortId.Accepts, PortId.isApp] at htxp
    · intro _ _ _ e; simp [e, PortId.Accepts] at hrxp
    · intro _ _ _ e; simp [e, PortId.Accepts, PortId.isApp] at hrxp

theorem cmdsAreQuiet_iff (s : State) :
    CmdsAre PortId.AcceptsQuiet s ↔ CmdsAre PortId.Accepts s ∧ s.pumping = false := by
  rw [← Bool.not_eq_true, s.pumping_iff]
  constructor
  · intro h
    refine ⟨fun p c hc => ?_, ?_⟩
    · have := h p c hc
      cases c <;> simp_all [PortId.Accepts, PortId.AcceptsQuiet]
    · rintro (⟨n, d, e, hc⟩ | ⟨d, hc⟩)
      · simpa [hc, PortId.AcceptsQuiet] using h .txp _ rfl
      · simpa [hc, PortId.AcceptsQuiet] using h .rxp _ rfl
  · rintro ⟨h, hp⟩ p c hc
    have ha := h p c hc
    cases c with
    | txGet n d e =>
      have hp' : p = .txp := ha
      subst hp'
      exact hp (.inl ⟨n, d, e, Option.some.inj hc⟩)
    | rxPut d =>
      have hp' : p = .rxp := ha
      subst hp'
      exact hp (.inr ⟨d, Option.some.inj hc⟩)
    | idle => exact ha
    | sendPacket _ _ _ => exact ha
    | close => exact ha

/-- The port of the micro-step, and the command that each port carries. -/
def State.cmds (s : State) : PortId × (PortId → Option Cmd) := (s.port, s.cmd?)

theorem State.port_of_cmds {s t : State} (h : t.cmds = s.cmds) : t.port = s.port := (Prod.mk.inj h).1

theorem State.cmd?_of_cmds {s t : State} (h : t.cmds = s.cmds) : t.cmd? = s.cmd? := (Prod.mk.inj h).2

/-- The two side conditions are closed by the field lemmas, so that most uses below give no argument. -/
theorem State.cmds_congr {s t : State} (hp : t.port = s.port := by simp) (h : ∀ p, t.port? p = s.port? p := by simp) :
    t.cmds = s.cmds := by
  rw [State.cmds, State.cmds, hp, show t.cmd? = s.cmd? by funext p; rw [State.cmd?, State.cmd?, h]]

theorem State.cmds_of_ports {s t : State} (hp : t.port = s.port := by simp) (ht : t.txp = s.txp := by simp)
    (hr : t.rxp = s.rxp := by simp) (ha : t.apps = s.apps := by simp) : t.cmds = s.cmds :=
  State.cmds_congr hp (fun p => by cases p <;> simp [State.port?, ht, hr, ha])

/-- A change of one port that leaves its command. -/
theorem State.cmds_modPort (s : State) (p : PortId) (f : Port → Port) (hf : ∀ q, (f q).cmd = q.cmd) :
    (s.modPort p f).cmds = s.cmds := by
  have : (s.modPort p f).cmd? = s.cmd? := by
    funext p'
    rw [State.cmd?, State.cmd?, s.port?_modPort]
    split_ifs with h
    · subst h; rw [Option.map_map]; congr 1; funext q; exact hf q
    · rfl
  rw [State.cmds, State.cmds, s.modPort_port, this]

/-! ### What leaves every command -/

section

variable (s : State)

@[simp] theorem State.cmds_modWin (f : Window → Window) : (s.modWin f).cmds = s.cmds := State.cmds_congr
@[simp] theorem State.cmds_modFlag (f : Flags → Flags) : (s.modFlag f).cmds = s.cmds := State.cmds_congr
@[simp] theorem State.cmds_modCtr (f : Counters → Counters) : (s.modCtr f).cmds = s.cmds := State.cmds_congr
@[simp] theorem State.cmds_modTim (f : Times → Times) : (s.modTim f).cmds = s.cmds := State.cmds_congr
@[simp] theorem State.cmds_modRing (f : Ring → Ring) : (s.modRing f).cmds = s.cmds := State.cmds_congr
@[simp] theorem State.cmds_modDec (f : Decoder → Decoder) : (s.modDec f).cmds = s.cmds := State.cmds_congr
@[simp] theorem State.cmds_modEnc (f : Encoder → Encoder) : (s.modEnc f).cmds = s.cmds := State.cmds_congr
@[simp] theorem State.cmds_modSlot (i : Nat) (f : Slot → Slot) : (s.modSlot i f).cmds = s.cmds := State.cmds_congr

@[simp] theorem emit_cmds (p : PortId) (ev : Event) : (emit p ev s).cmds = s.cmds := s.cmds_modPort p _ (fun _ => rfl)
@[simp] theorem setProc_cmds (pr : Proc) : (setProc pr s).cmds = s.cmds := s.cmds_modPort _ _ (fun _ => rfl)
@[simp] theorem endProc_cmds (res : Word) : (endProc res s).cmds = s.cmds := s.cmds_modPort _ _ (fun _ => rfl)
@[simp] theorem popQueue_cmds : (popQueue s).cmds = s.cmds := s.cmds_modPort _ _ (fun _ => rfl)
@[simp] theorem takeEvent_cmds (p : PortId) : (takeEvent p s).cmds = s.cmds := s.cmds_modPort _ _ (fun _ => rfl)

@[simp] theorem enterConnecting_cmds : (enterConnecting s).cmds = s.cmds := State.cmds_congr
@[simp] theorem enterConnected_cmds : (enterConnected s).cmds = s.cmds := State.cmds_congr
@[simp] theorem enterDisconnecting_cmds : (enterDisconnecting s).cmds = s.cmds := State.cmds_congr
@[simp] theorem enterDisconnected_cmds : (enterDisconnected s).cmds = s.cmds := State.cmds_congr
@[simp] theorem bumpFailGen_cmds : (bumpFailGen s).cmds = s.cmds := State.cmds_congr
@[simp] theorem failPending_cmds : (failPending s).cmds = s.cmds := State.cmds_congr
@[simp] theorem resetSeq_cmds : (resetSeq s).cmds = s.cmds := State.cmds_congr
@[simp] theorem oweUA_cmds : (oweUA s).cmds = s.cmds := State.cmds_congr
@[simp] theorem setPeerBusy_cmds (b : Bool) : (setPeerBusy b s).cmds = s.cmds := State.cmds_congr
@[simp] theorem rewind_cmds : (rewind s).cmds = s.cmds := State.cmds_congr
@[simp] theorem enqueue_cmds (p : List Byte) : (enqueue p s).cmds = s.cmds := State.cmds_congr
@[simp] theorem sendsNR_cmds : (sendsNR s).cmds = s.cmds := State.cmds_congr
@[simp] theorem buildFrame_cmds (c : Byte) (p : List Byte) : (buildFrame c p s).cmds = s.cmds := State.cmds_congr
@[simp] theorem sendSlot_cmds (i : Nat) : (sendSlot i s).cmds = s.cmds := State.cmds_congr
@[simp] theorem selectedI_cmds : (selectedI s).cmds = s.cmds := State.cmds_congr
@[simp] theorem selectedOther_cmds : (selectedOther s).cmds = s.cmds := State.cmds_congr
@[simp] theorem startFrame_cmds : (startFrame s).cmds = s.cmds := State.cmds_congr
@[simp] theorem txAdvance_cmds : (txAdvance s).cmds = s.cmds := State.cmds_congr

@[simp] theorem owePoll_cmds (pf : Bool) : (owePoll pf s).cmds = s.cmds := State.cmds_of_ports
@[simp] theorem frmrTrigger_cmds : (frmrTrigger s).cmds = s.cmds := State.cmds_of_ports
@[simp] theorem receiveOutOfSeq_cmds : (receiveOutOfSeq s).cmds = s.cmds := State.cmds_of_ports
@[simp] theorem frameDone_cmds : (frameDone s).cmds = s.cmds := State.cmds_of_ports
@[simp] theorem timerPhase_cmds : (timerPhase s).cmds = s.cmds := State.cmds_of_ports
@[simp] theorem storeByte_cmds (v : Byte) : (storeByte v s).cmds = s.cmds := State.cmds_of_ports
@[simp] theorem processNR_cmds (nr : Seq) : (processNR nr s).1.cmds = s.cmds := by
  rw [processNR_eq]; exact State.cmds_of_ports rfl rfl rfl rfl

@[simp] theorem endSession_cmds : (endSession s).cmds = s.cmds := State.cmds_of_ports rfl rfl rfl rfl
@[simp] theorem freshSession_cmds : (freshSession s).cmds = s.cmds := State.cmds_of_ports rfl rfl rfl rfl
@[simp] theorem setCfg_cmds (c : Cfg) : State.cmds { s with cfg := c } = s.cmds := State.cmds_of_ports rfl rfl rfl rfl
@[simp] theorem setEff_cmds (e : Eff) : State.cmds { s with eff := e } = s.cmds := State.cmds_of_ports rfl rfl rfl rfl
@[simp] theorem setClosing_cmds (b : Bool) : State.cmds { s with closing := b } = s.cmds := State.cmds_of_ports rfl rfl rfl rfl

/-! Completions, selection and the encoder. -/

@[simp] theorem deliverHead_cmds : (deliverHead s).cmds = s.cmds := by simp [deliverHead]

theorem deliverLoop_cmds (n : Nat) : ∀ s : State, (deliverLoop n s).cmds = s.cmds := by
  induction n with
  | zero => exact fun _ => rfl
  | succ n ih =>
    intro s
    unfold deliverLoop
    split
    · rw [ih, deliverHead_cmds]
    · rfl

@[simp] theorem deliverCompletions_cmds : (deliverCompletions s).cmds = s.cmds := deliverLoop_cmds _ s

variable {s} {t : State}

theorem selectU_cmds (h : selectU s = some t) : t.cmds = s.cmds := by
  unfold selectU at h
  split_ifs at h <;> cases h <;> simp

theorem selectAck_cmds (h : selectAck s = some t) : t.cmds = s.cmds := by
  unfold selectAck at h
  split_ifs at h <;> cases h <;> simp

theorem selectNew_cmds (h : selectNew s = some t) : t.cmds = s.cmds := by
  unfold selectNew at h
  split at h
  · cases h
  · split at h
    · cases h
    · split at h <;> cases h
      simp

theorem selectRetx_cmds (h : selectRetx s = some t) : t.cmds = s.cmds := by
  unfold selectRetx at h
  split at h
  · cases h
  · split at h <;> cases h
    simp

theorem selectKeepAlive_cmds (h : selectKeepAlive s = some t) : t.cmds = s.cmds := by
  unfold selectKeepAlive at h
  split at h <;> cases h
  simp

theorem selectByPriority_cmds (h : selectByPriority s = some t) : t.cmds = s.cmds := by
  unfold selectByPriority at h
  split at h
  · next hu => cases h; rw [selectedOther_cmds, selectU_cmds hu]
  split at h
  · split at h
    · next hu => cases h; rw [selectedOther_cmds, selectAck_cmds hu]
    split at h
    · next hu => cases h; rw [selectedI_cmds, selectNew_cmds hu]
    split at h
    · next hu => cases h; rw [selectedI_cmds, selectRetx_cmds hu]
    · obtain ⟨u, hu, rfl⟩ := Option.map_eq_some_iff.mp h
      rw [selectedOther_cmds, selectKeepAlive_cmds hu]
  · cases h

variable (s)

@[simp] theorem selectFrame_cmds : (selectFrame s).1.cmds = s.cmds := by
  unfold selectFrame
  split
  · next hu => rw [selectByPriority_cmds hu, timerPhase_cmds]
  · exact timerPhase_cmds s

@[simp] theorem emitByte_cmds : (emitByte s).1.cmds = s.cmds := by
  unfold emitByte
  dsimp only
  split
  · rfl
  · simp
  · split <;> simp
  · simp
  · simp

@[simp] theorem encodeStep_cmds : (encodeStep s).1.cmds = s.cmds := by
  unfold encodeStep
  split_ifs <;> simp

/-! Received frames and the decoder. -/

@[simp] theorem receiveInSeq_cmds (pf : Bool) (nr : Seq) : (receiveInSeq pf nr s).cmds = s.cmds := by
  unfold receiveInSeq
  dsimp only
  split <;> simp

@[simp] theorem receiveI_cmds (ns : Seq) (pf : Bool) (nr : Seq) : (receiveI ns pf nr s).cmds = s.cmds := by
  unfold receiveI
  split <;> simp

@[simp] theorem receiveREJ_cmds (pf : Bool) (nr : Seq) : (receiveREJ pf nr s).cmds = s.cmds := by
  unfold receiveREJ
  dsimp only
  split <;> simp

@[simp] theorem rxSABM_cmds : (rxSABM s).cmds = s.cmds := by
  unfold rxSABM
  split <;> simp

@[simp] theorem rxUA_cmds : (rxUA s).cmds = s.cmds := by
  unfold rxUA
  split <;> simp

@[simp] theorem rxDISC_cmds : (rxDISC s).cmds = s.cmds := by
  unfold rxDISC
  split <;> simp

theorem onFrame_cmds {k : State → State} (hk : ∀ t : State, (k t).cmds = t.cmds) : (onFrame k s).cmds = s.cmds := by
  unfold onFrame
  split
  · rfl
  · rw [hk, State.cmds_modCtr]

theorem noPayload_cmds {k : State → State} (hk : (k s).cmds = s.cmds) : (noPayload k s).cmds = s.cmds := by
  unfold noPayload
  split
  · exact hk
  · exact frmrTrigger_cmds s

theorem whenConnected_cmds {k : State → State} (hk : (k s).cmds = s.cmds) : (whenConnected k s).cmds = s.cmds := by
  unfold whenConnected
  split
  · exact hk
  · rfl

/-- A received frame leaves every command. -/
@[simp] theorem receive_cmds (i : Instr) : (receive i s).cmds = s.cmds := by
  cases i
  case iFrame => exact onFrame_cmds s (fun t => whenConnected_cmds t (by simp))
  case rr => exact onFrame_cmds s (fun t => noPayload_cmds t (whenConnected_cmds t (by simp [receiveRR])))
  case rej => exact onFrame_cmds s (fun t => noPayload_cmds t (whenConnected_cmds t (by simp)))
  case rnr => exact onFrame_cmds s (fun t => noPayload_cmds t (whenConnected_cmds t (by simp [receiveRNR])))
  case sReserved => exact onFrame_cmds s frmrTrigger_cmds
  case sabm => exact onFrame_cmds s (fun t => noPayload_cmds t (by simp))
  case ua => exact onFrame_cmds s (fun t => noPayload_cmds t (by simp))
  case disc => exact onFrame_cmds s (fun t => noPayload_cmds t (by simp))
  case frmr => exact onFrame_cmds s (fun _ => rfl)
  case uReserved => exact onFrame_cmds s frmrTrigger_cmds
  all_goals rfl

@[simp] theorem endOfFrame_cmds : (endOfFrame s).cmds = s.cmds := by
  unfold endOfFrame crcError processFrame
  split_ifs <;> simp

@[simp] theorem decodeByte_cmds (b : Byte) : (decodeByte b s).cmds = s.cmds := by
  unfold decodeByte
  split <;> split_ifs <;> simp

@[simp] theorem closeEvents_cmds : (closeEvents s).cmds = s.cmds :=
  closeEvents_keeps (P := fun t => t.cmds = s.cmds) (fun t p ev ht => (emit_cmds t p ev).trans ht) rfl

end

/-! ### Commands through every step (R132, R581) -/

/-- What leaves every command keeps a property of the commands. -/
theorem CmdsAre.of_cmds {A : PortId → Cmd → Prop} {s t : State} (h : CmdsAre A s) (e : t.cmds = s.cmds) : CmdsAre A t := by
  intro p c hc
  exact h p c (State.cmd?_of_cmds e ▸ hc)

/-- A port gets a command that it may carry. -/
theorem CmdsAre.modPort {A : PortId → Cmd → Prop} {s : State} {p : PortId} {f : Port → Port} (h : CmdsAre A s)
    (hf : ∀ q, A p (f q).cmd) : CmdsAre A (s.modPort p f) := by
  intro p' c hc
  obtain ⟨q, hq, rfl⟩ := Option.map_eq_some_iff.mp hc
  rw [s.port?_modPort] at hq
  split_ifs at hq with hp
  · obtain ⟨r, _, rfl⟩ := Option.map_eq_some_iff.mp hq
    exact hp ▸ hf r
  · exact h p' q.cmd (by rw [State.cmd?, hq]; rfl)

/-- After what leaves every command, the port of the micro-step goes busy with a command that it may carry. -/
theorem CmdsAre.setCmd {A : PortId → Cmd → Prop} {s t : State} {c : Cmd} (h : CmdsAre A s) (e : t.cmds = s.cmds)
    (hc : A s.port c) : CmdsAre A (setCmd c t) :=
  CmdsAre.modPort (h.of_cmds e) (fun _ => State.port_of_cmds e ▸ hc)

theorem CmdsAre.respond {A : PortId → Cmd → Prop} {s : State} (h : CmdsAre A s) (hidle : A s.port .idle) (res : Word)
    (dout : List Byte) : CmdsAre A (respond res dout s) :=
  CmdsAre.modPort h (fun q => by rw [Port.answer_cmd]; exact hidle)

/-- CLOSE phase 2 makes its port idle, or changes no command. -/
theorem CmdsAre.closePhase2 {A : PortId → Cmd → Prop} {s : State} (h : CmdsAre A s) (hidle : ∀ p, A p .idle) :
    CmdsAre A (closePhase2 s) := by
  unfold Machine.closePhase2
  split
  · exact h
  · exact (h.of_cmds (by simp)).respond (hidle _) _ _

/-- Hardware reset leaves every port idle. -/
theorem hardwareReset_port? (s : State) (p : PortId) : (hardwareReset s).port? p = (s.port? p).map Port.hardReset := by
  cases p <;> simp [hardwareReset, State.port?]

theorem CmdsAre.hardwareReset {A : PortId → Cmd → Prop} (hidle : ∀ p, A p .idle) (s : State) :
    CmdsAre A (hardwareReset s) := by
  intro p c hc
  rw [State.cmd?, hardwareReset_port?, Option.map_map] at hc
  obtain ⟨q, _, rfl⟩ := Option.map_eq_some_iff.mp hc
  exact hidle p

/-- What the parts of a host procedure must keep (R490, R491, R492). -/
structure KeptProc (P : State → Prop) : Prop where
  sets : ∀ s pr, P s → P (setProc pr s)
  ends : ∀ s res, P s → P (endProc res s)
  txGet : ∀ s n, P s → P (cmdTxGet n s)
  rxPut : ∀ s din, P s → P (cmdRxPut din s)
  getMtu : ∀ s, P s → P (cmdGetMtu s)
  sendPacket : ∀ s payload, P s → P (cmdSendPacket payload s)

/-- A host procedure that waits for a response goes on where the response is there. -/
theorem KeptProc.procStep {P : State → Prop} (k : KeptProc P) {s : State} (pr : Proc) (reply : Option Response) (h : P s) :
    P (procStep pr reply s) := by
  cases pr with
  | runTxGet total writes => exact k.txGet _ _ (k.sets _ _ h)
  | runTxWait total writes =>
    cases reply with
    | none => exact h
    | some r =>
      simp only [Machine.procStep, runTxReply]
      split
      · exact k.ends _ _ h
      · exact k.sets _ _ h
  | runTxWrite total writes bytes =>
    simp only [Machine.procStep, runTxCall]
    split_ifs
    · exact k.ends _ _ h
    · exact k.sets _ _ h
    · exact k.sets _ _ h
  | runRxRead total reads =>
    simp only [Machine.procStep, runRxCall]
    split
    · exact k.ends _ _ h
    · exact k.rxPut _ _ (k.sets _ _ h)
  | runRxWait total reads n =>
    cases reply with
    | none => exact h
    | some r => exact k.sets _ _ h
  | sendMtu buf => exact k.getMtu _ (k.sets _ _ h)
  | sendMtuWait buf =>
    cases reply with
    | none => exact h
    | some r => exact k.sets _ _ h
  | sendLoop buf m sent =>
    simp only [Machine.procStep, sendFragment]
    split_ifs
    · exact k.ends _ _ h
    · exact k.ends _ _ h
    · exact k.sendPacket _ _ (k.sets _ _ h)
  | sendWait buf m sent n =>
    cases reply with
    | none => exact h
    | some r =>
      simp only [Machine.procStep, sendReply]
      split_ifs
      · exact k.sets _ _ h
      · exact k.ends _ _ h
      · exact k.ends _ _ h

section

variable {s : State} (h : CmdsAre PortId.Accepts s)

include h

theorem cmdsAccepted_respond (res : Word) (dout : List Byte) : CmdsAre PortId.Accepts (respond res dout s) :=
  h.respond trivial res dout

theorem cmdsAccepted_refuse (code : Word) : CmdsAre PortId.Accepts (refuse code s) := h.respond trivial code []

theorem cmdsAccepted_inSession {k : State → State} (hk : CmdsAre PortId.Accepts (k s)) :
    CmdsAre PortId.Accepts (inSession k s) := by
  unfold inSession
  split
  · exact cmdsAccepted_refuse h _
  · exact hk

theorem cmdInit_cmdsAccepted : CmdsAre PortId.Accepts (cmdInit s) := by
  unfold cmdInit
  split_ifs
  · exact cmdsAccepted_refuse h _
  · exact cmdsAccepted_refuse h _
  · exact cmdsAccepted_respond (h.of_cmds (freshSession_cmds s)) _ _

theorem cmdClose_cmdsAccepted : CmdsAre PortId.Accepts (cmdClose s) := by
  apply cmdsAccepted_inSession h
  split
  · exact cmdsAccepted_refuse h _
  · exact h.setCmd (by simp) trivial

theorem cmdDisconnect_cmdsAccepted : CmdsAre PortId.Accepts (cmdDisconnect s) := by
  apply cmdsAccepted_inSession h
  split
  · exact cmdsAccepted_refuse h _
  · split
    · exact cmdsAccepted_respond (h.of_cmds (enterDisconnecting_cmds s)) _ _
    · exact cmdsAccepted_respond h _ _
    all_goals exact cmdsAccepted_refuse h _

theorem cmdTxGet_cmdsAccepted (n : BitVec 16) : CmdsAre PortId.Accepts (cmdTxGet n s) := by
  unfold cmdTxGet
  split_ifs with hp
  · exact cmdsAccepted_refuse h _
  · apply cmdsAccepted_inSession h
    split
    · exact cmdsAccepted_respond h _ _
    · exact h.setCmd (by simp) (by simpa [PortId.Accepts] using hp)

theorem cmdRxPut_cmdsAccepted (din : List Byte) : CmdsAre PortId.Accepts (cmdRxPut din s) := by
  unfold cmdRxPut
  split_ifs with hp
  · exact cmdsAccepted_refuse h _
  · apply cmdsAccepted_inSession h
    split
    · exact cmdsAccepted_respond h _ _
    · exact h.setCmd rfl (by simpa [PortId.Accepts] using hp)

theorem cmdSendPacket_cmdsAccepted (payload : List Byte) : CmdsAre PortId.Accepts (cmdSendPacket payload s) := by
  unfold cmdSendPacket
  split_ifs with hp
  · exact cmdsAccepted_refuse h _
  · apply cmdsAccepted_inSession h
    split_ifs
    · exact cmdsAccepted_refuse h _
    · exact cmdsAccepted_refuse h _
    · exact h.setCmd (by simp) (by simpa [PortId.Accepts] using hp)
    · exact h.setCmd rfl (by simpa [PortId.Accepts] using hp)

theorem cmdGetMtu_cmdsAccepted : CmdsAre PortId.Accepts (cmdGetMtu s) :=
  cmdsAccepted_inSession h (cmdsAccepted_respond h _ _)

theorem exec_cmdsAccepted {i : Instr} {t : State} (hexec : exec i s = .next t) : CmdsAre PortId.Accepts t := by
  cases i <;> cases hexec
  case init => exact cmdInit_cmdsAccepted h
  case close => exact cmdClose_cmdsAccepted h
  case status => exact cmdsAccepted_inSession h (cmdsAccepted_respond h _ _)
  case disconnect => exact cmdDisconnect_cmdsAccepted h
  case txGet n => exact cmdTxGet_cmdsAccepted h n
  case rxPut din => exact cmdRxPut_cmdsAccepted h din
  case sendPacket payload => exact cmdSendPacket_cmdsAccepted h payload
  case getMtu => exact cmdGetMtu_cmdsAccepted h
  case setKaTimeout => exact cmdsAccepted_inSession h (cmdsAccepted_respond (h.of_cmds (by simp)) _ _)
  case bufferSize => exact cmdsAccepted_respond h _ _
  case readReg n =>
    unfold cmdReadReg
    split
    · exact cmdsAccepted_respond h _ _
    · exact cmdsAccepted_refuse h _
  case writeReg n v =>
    unfold cmdWriteReg
    split
    · exact cmdsAccepted_respond (h.of_cmds (by simp)) _ _
    · exact cmdsAccepted_refuse h _
  case runTx => exact h.of_cmds (by simp)
  case runRx => exact h.of_cmds (by simp)
  case send => exact h.of_cmds (by simp)
  case iFrame ns pf nr => exact h.of_cmds (receive_cmds s (.iFrame ns pf nr))
  case rr pf nr => exact h.of_cmds (receive_cmds s (.rr pf nr))
  case rej pf nr => exact h.of_cmds (receive_cmds s (.rej pf nr))
  case rnr pf nr => exact h.of_cmds (receive_cmds s (.rnr pf nr))
  case sReserved pf nr => exact h.of_cmds (receive_cmds s (.sReserved pf nr))
  case sabm => exact h.of_cmds (receive_cmds s .sabm)
  case ua => exact h.of_cmds (receive_cmds s .ua)
  case disc => exact h.of_cmds (receive_cmds s .disc)
  case frmr => exact h.of_cmds (receive_cmds s .frmr)
  case uReserved kind => exact h.of_cmds (receive_cmds s (.uReserved kind))

/-- The command that the port of the micro-step carries goes on. -/
theorem microStep_cmdsAccepted {c : Cmd} (hc : s.port.Accepts c) : CmdsAre PortId.Accepts (microStep c s) := by
  cases c with
  | idle => exact h
  | txGet left dout ended =>
    simp only [microStep, txGetStep, txEpilogue, txOutput]
    split_ifs
    · exact cmdsAccepted_respond (h.of_cmds (by simp)) _ _
    · exact h.setCmd rfl hc
    · split
      · exact h.setCmd (by simp) hc
      · exact h.setCmd (by simp) hc
  | rxPut din =>
    simp only [microStep, rxPutStep]
    split
    · exact cmdsAccepted_respond h _ _
    · split_ifs
      · exact cmdsAccepted_respond h _ _
      · exact cmdsAccepted_respond (h.of_cmds (by simp)) _ _
      · exact h.setCmd (by simp) hc
  | sendPacket payload tIssue gen =>
    simp only [microStep, sendPacketStep]
    split_ifs
    · exact cmdsAccepted_refuse h _
    · exact cmdsAccepted_respond (h.of_cmds (by simp)) _ _
    · exact cmdsAccepted_refuse h _
    · exact h
  | close => exact h.closePhase2 (fun _ => trivial)

end

theorem cmdsAccepted_keptProc : KeptProc (CmdsAre PortId.Accepts) where
  sets s pr h := h.of_cmds (setProc_cmds s pr)
  ends s res h := h.of_cmds (endProc_cmds s res)
  txGet _ n h := cmdTxGet_cmdsAccepted h n
  rxPut _ din h := cmdRxPut_cmdsAccepted h din
  getMtu _ h := cmdGetMtu_cmdsAccepted h
  sendPacket _ payload h := cmdSendPacket_cmdsAccepted h payload

/-- The port that runs next carries its command at its micro-step. -/
theorem RunsNext.cmd? {p : PortId} {now : Time} {rest : List Tick} {q : Port} {s : State} (h : RunsNext p now rest q s) :
    (sample p now rest s).cmd? p = some q.cmd := by
  have : (sample p now rest s).port? p = s.port? p := by cases p <;> rfl
  rw [State.cmd?, this, h.port, Option.map_some]

theorem CmdsAre.sample {A : PortId → Cmd → Prop} {s : State} (h : CmdsAre A s) (p : PortId) (now : Time) (rest : List Tick) :
    CmdsAre A (sample p now rest s) := h

/-- No step gives a port a command that it does not accept. -/
theorem step_cmdsAccepted {s t : State} (h : CmdsAre PortId.Accepts s) (hstep : step s = .next t) :
    CmdsAre PortId.Accepts t := by
  cases step_cases hstep with
  | rests _ => exact h
  | resets now rest _ => exact .hardwareReset (fun _ => trivial) _
  | takesEvent p now rest => exact (h.sample s.port now rest).of_cmds (takeEvent_cmds _ _)
  | continues p now rest q hrun _ =>
    exact microStep_cmdsAccepted (h.sample p now rest) (h.sample p now rest p _ hrun.cmd?)
  | proceeds p now rest pr reply => exact cmdsAccepted_keptProc.procStep pr reply (h.sample p now rest)
  | waits p now rest => exact h.sample p now rest
  | rejects p now rest => exact cmdsAccepted_refuse ((h.sample p now rest).of_cmds (popQueue_cmds _)) _
  | accepts p now rest q op l i u _ _ _ _ hexec =>
    exact exec_cmdsAccepted ((h.sample p now rest).of_cmds (popQueue_cmds _)) hexec

/-! ### The block without a session (R40, R473, R571) -/

/-- In UNINIT, nothing of a session is left, and no port carries a TX_GET or an RX_PUT. -/
structure Offline (s : State) : Prop where
  uninit : s.fsm = .uninit
  noSession : NoSession s
  quiet : CmdsAre PortId.AcceptsQuiet s

theorem sessionInv_iff (s : State) : SessionInv s ↔ CmdsAre PortId.Accepts s ∧ (s.fsm = .uninit → Offline s) := by
  rw [SessionInv, portsLegal_iff]
  constructor
  · rintro ⟨hports, hoff⟩
    refine ⟨hports, fun hu => ⟨hu, (hoff hu).1, ?_⟩⟩
    exact (cmdsAreQuiet_iff s).mpr ⟨hports, (hoff hu).2⟩
  · rintro ⟨hports, hoff⟩
    exact ⟨hports, fun hu => ⟨(hoff hu).noSession, ((cmdsAreQuiet_iff s).mp (hoff hu).quiet).2⟩⟩

theorem NoSession.of_sameBlock {s t : State} (h : NoSession s) (hb : SameBlock s t) : NoSession t where
  eff := hb.eff.trans h.eff
  closing := hb.closing.trans h.closing
  win := hb.win.trans h.win
  flag := hb.flag.trans h.flag
  uRetriesLeft := by rw [hb.ctr]; exact h.uRetriesLeft
  kaUnanswered := by rw [hb.ctr]; exact h.kaUnanswered
  tim := hb.tim.trans h.tim
  ring := hb.ring.trans h.ring
  dec := hb.dec.trans h.dec
  enc := hb.enc.trans h.enc

theorem endSession_noSession (s : State) : NoSession (endSession s) := ⟨rfl, rfl, rfl, rfl, rfl, rfl, rfl, rfl, rfl, rfl⟩

/-- CLOSE phase 2, where it is not held, leaves no session. -/
theorem closePhase2_offline {s : State} (h : CmdsAre PortId.AcceptsQuiet s) : Offline (closePhase2 s) := by
  refine ⟨?_, ?_, h.closePhase2 (fun _ => trivial)⟩
  all_goals rw [closePhase2, ((cmdsAreQuiet_iff s).mp h).2, if_neg Bool.false_ne_true]
  · simp [endSession]
  · exact (endSession_noSession _).of_sameBlock (State.modPort_sameBlock _ _ _)

theorem hardwareReset_offline (s : State) : Offline (hardwareReset s) where
  uninit := rfl
  noSession := ⟨rfl, rfl, rfl, rfl, rfl, rfl, rfl, rfl, rfl, rfl⟩
  quiet := .hardwareReset (fun _ => trivial) s

namespace Offline

variable {s : State} (h : Offline s)

include h

theorem of_sameBlock {t : State} (hb : SameBlock s t) (hc : CmdsAre PortId.AcceptsQuiet t) : Offline t :=
  ⟨hb.fsm.trans h.uninit, h.noSession.of_sameBlock hb, hc⟩

theorem respond (res : Word) (dout : List Byte) : Offline (respond res dout s) :=
  h.of_sameBlock (State.modPort_sameBlock _ _ _) (h.quiet.respond trivial res dout)

theorem refuse (code : Word) : Offline (refuse code s) := h.respond code []

theorem modPort (p : PortId) (f : Port → Port) (hf : ∀ q, (f q).cmd = q.cmd) : Offline (s.modPort p f) :=
  h.of_sameBlock (State.modPort_sameBlock _ _ _) (h.quiet.of_cmds (s.cmds_modPort p f hf))

theorem setProc (pr : Proc) : Offline (setProc pr s) := h.modPort _ _ (fun _ => rfl)

theorem popQueue : Offline (popQueue s) := h.modPort _ _ (fun _ => rfl)

theorem sample (p : PortId) (now : Time) (rest : List Tick) : Offline (sample p now rest s) :=
  h.of_sameBlock (sample_sameBlock p now rest s) (h.quiet.sample p now rest)

/-- A command that needs a session is refused. -/
theorem inSession (k : State → State) : Offline (inSession k s) := by
  rw [Machine.inSession, if_pos h.uninit]; exact h.refuse _

theorem cmdTxGet (n : BitVec 16) : Offline (cmdTxGet n s) := by
  unfold Machine.cmdTxGet
  split
  · exact h.refuse _
  · exact h.inSession _

theorem cmdRxPut (din : List Byte) : Offline (cmdRxPut din s) := by
  unfold Machine.cmdRxPut
  split
  · exact h.refuse _
  · exact h.inSession _

theorem cmdSendPacket (payload : List Byte) : Offline (cmdSendPacket payload s) := by
  unfold Machine.cmdSendPacket
  split
  · exact h.refuse _
  · exact h.inSession _

/-- INIT is refused, or begins a session. -/
theorem cmdInit : Offline (cmdInit s) ∨ (cmdInit s).fsm ≠ .uninit := by
  unfold Machine.cmdInit
  split_ifs
  · exact .inl (h.refuse _)
  · exact .inl (h.refuse _)
  · exact .inr (by simp [freshSession])

/-- WRITE_REG writes a CFG register, which is no part of a session. -/
theorem cmdWriteReg (n : Byte) (v : Word) : Offline (cmdWriteReg n v s) := by
  unfold Machine.cmdWriteReg
  split
  · next c _ =>
    have hc : Offline { s with cfg := c } :=
      ⟨h.uninit, { h.noSession with }, h.quiet.of_cmds (setCfg_cmds s c)⟩
    exact hc.respond _ _
  · exact h.refuse _

theorem onFrame (k : State → State) : Offline (onFrame k s) := by
  rw [onFrame_not_running k s (.inl h.uninit)]; exact h

/-- No instruction but INIT begins a session. -/
theorem exec {i : Instr} {t : State} (hexec : exec i s = .next t) : Offline t ∨ t.fsm ≠ .uninit := by
  cases i <;> cases hexec
  case init => exact h.cmdInit
  all_goals left
  case txGet n => exact h.cmdTxGet n
  case rxPut din => exact h.cmdRxPut din
  case sendPacket payload => exact h.cmdSendPacket payload
  case bufferSize => exact h.respond _ _
  case readReg n =>
    unfold cmdReadReg
    split
    · exact h.respond _ _
    · exact h.refuse _
  case writeReg n v => exact h.cmdWriteReg n v
  case close => exact h.inSession _
  case status => exact h.inSession _
  case disconnect => exact h.inSession _
  case getMtu => exact h.inSession _
  case setKaTimeout => exact h.inSession _
  case runTx => exact h.setProc _
  case runRx => exact h.setProc _
  case send => exact h.setProc _
  all_goals exact h.onFrame _

/-- The only commands to go on are a held SEND_PACKET, which is refused, and a CLOSE. -/
theorem microStep {c : Cmd} (hc : s.port.AcceptsQuiet c) : Offline (microStep c s) := by
  cases c with
  | idle => exact h
  | txGet _ _ _ => exact hc.elim
  | rxPut _ => exact hc.elim
  | sendPacket payload tIssue gen =>
    simp only [Machine.microStep, sendPacketStep, h.uninit, true_or, or_true, if_true]
    exact h.refuse _
  | close => exact closePhase2_offline h.quiet

end Offline

theorem offline_keptProc : KeptProc Offline where
  sets _ pr h := h.setProc pr
  ends _ _ h := h.modPort _ _ (fun _ => rfl)
  txGet _ n h := h.cmdTxGet n
  rxPut _ din h := h.cmdRxPut din
  getMtu _ h := h.inSession _
  sendPacket _ payload h := h.cmdSendPacket payload

/-- Without a session, a step leaves none, or is an INIT that begins one. -/
theorem Offline.step {s t : State} (h : Offline s) (hstep : step s = .next t) : Offline t ∨ t.fsm ≠ .uninit := by
  cases step_cases hstep with
  | rests _ => exact .inl h
  | resets now rest _ => exact .inl (hardwareReset_offline _)
  | takesEvent p now rest => exact .inl ((h.sample s.port now rest).modPort _ _ (fun _ => rfl))
  | continues p now rest q hrun _ =>
    exact .inl ((h.sample p now rest).microStep ((h.sample p now rest).quiet p _ hrun.cmd?))
  | proceeds p now rest pr reply => exact .inl (offline_keptProc.procStep pr reply (h.sample p now rest))
  | waits p now rest => exact .inl (h.sample p now rest)
  | rejects p now rest => exact .inl ((h.sample p now rest).popQueue.refuse _)
  | accepts p now rest q op l i u _ _ _ _ hexec =>
    exact (h.sample p now rest).popQueue.exec hexec

/-- A step that ends the session leaves nothing of it. -/
theorem step_endsSession {s t : State} (h : CmdsAre PortId.Accepts s) (hs : s.fsm ≠ .uninit) (ht : t.fsm = .uninit)
    (hstep : step s = .next t) : Offline t := by
  rcases session_kept.step hs hstep with hn | ⟨now, rest, _, rfl⟩ | ⟨p, now, rest, q, _, _, rfl⟩
  · exact absurd ht hn
  · exact hardwareReset_offline _
  · by_cases hp : (sample p now rest s).pumping = true
    · rw [closePhase2, if_pos hp] at ht
      exact absurd ht hs
    · exact closePhase2_offline ((cmdsAreQuiet_iff _).mpr ⟨h.sample p now rest, Bool.eq_false_of_not_eq_true hp⟩)

/-- Settles O56: `effInv_kept` for the effective registers, `step_cmdsAccepted` for the ports, and in UNINIT
`step_endsSession` and `Offline.step`. -/
theorem sessionKept : Obligations.SessionKept := by
  intro s t hstep
  refine ⟨fun h => effInv_kept.step h hstep, fun h => ?_⟩
  rw [sessionInv_iff] at h ⊢
  obtain ⟨hports, hoff⟩ := h
  refine ⟨step_cmdsAccepted hports hstep, fun ht => ?_⟩
  by_cases hs : s.fsm = .uninit
  · exact ((hoff hs).step hstep).resolve_right (fun hn => hn ht)
  · exact step_endsSession hports hs ht hstep

end Sys2Proof.Machine

/-! ## Hardware reset (R49, R570) -/

namespace Sys2Proof.Machine

/-- Every port of `State.reset` is as after hardware reset. -/
theorem reset_port? {p : PortId} {q : Port} (h : State.reset.port? p = some q) : q = Port.reset := by
  cases p with
  | txp => exact (Option.some.inj h).symm
  | rxp => exact (Option.some.inj h).symm
  | app n => exact List.eq_of_mem_replicate (List.mem_of_getElem? h)

theorem reset_offline : Offline State.reset where
  uninit := rfl
  noSession := ⟨rfl, rfl, rfl, rfl, rfl, rfl, rfl, rfl, rfl, rfl⟩
  quiet p c hc := by
    obtain ⟨q, hq, rfl⟩ := Option.map_eq_some_iff.mp hc
    rw [reset_port? hq]
    trivial

/-- Hardware reset gives every register of the block its value in `State.reset`. -/
theorem hardwareReset_sameBlock (s : State) : SameBlock { State.reset with params := s.params } (hardwareReset s) :=
  ⟨rfl, rfl, rfl, rfl, rfl, rfl, rfl, rfl, rfl, rfl, rfl, rfl⟩

theorem step_reset {s : State} {now : Time} {rest : List Tick} (h : s.ticks = ⟨now, .reset⟩ :: rest) :
    step s = .next (hardwareReset { s with now := now, ticks := rest }) := by
  simp [step, h, runTick]

theorem StorageRule.atReset {Q : Slot → Prop} {D : Decoder → Prop} {E : Encoder → Prop} (r : StorageRule Q D E) :
    StorageHas Q D E State.reset := ⟨r.ringReset, r.decReset, r.encReset⟩

theorem reset_slot (i : Nat) : State.reset.slot i = Slot.reset := by
  simp only [State.slot, State.reset, Ring.reset, List.getD_eq_getElem?_getD, List.getElem?_replicate]
  split <;> rfl

/-- After reset no slot is occupied. -/
theorem ringInv_reset : RingInv State.reset where
  seven := rfl
  noWindow _ := rfl
  headInW h := absurd rfl h
  countLeW := Nat.le_refl 0
  freeOutside i _ := by rw [reset_slot]; rfl
  occupied _ hx := absurd hx List.not_mem_nil
  ordered := .nil
  numbered h := by cases h

/-- Settles O52: `StorageRule.atReset`, `reset_offline` and `ringInv_reset`, and 0 for every counter. -/
theorem invariantsAtReset : Obligations.InvariantsAtReset :=
  ⟨(ramCanonical_iff _).mpr canonical_storageRule.atReset, (ramWritten_iff _).mpr written_storageRule.atReset,
    Nat.le_refl 0, keepAliveInv_of_zero rfl, rxBoundInv_of_zero rfl, .of_uninit rfl rfl,
    (sessionInv_iff _).mpr ⟨((cmdsAreQuiet_iff _).mp reset_offline.quiet).1, fun _ => reset_offline⟩, ringInv_reset⟩

end Sys2Proof.Machine

/-! The theorem below bears the name of the model's `Machine.hardwareReset`, so it stands outside that namespace. -/

namespace Sys2Proof.Reset

open Machine

/-- Settles O8: `hardwareReset_sameBlock` and `hardwareReset_port?` for the step, and the fields of `State.reset` read off. -/
theorem hardwareReset : Obligations.HardwareReset := by
  refine ⟨fun s now rest hticks =>
    ⟨_, step_reset hticks, hardwareReset_sameBlock { s with now := now, ticks := rest }, ?_⟩,
    rfl, rfl, rfl, rfl, rfl, rfl, rfl, rfl, rfl, rfl, rfl, ?_, rfl, rfl, rfl, rfl, rfl, rfl, rfl, rfl, rfl, rfl, rfl, ?_⟩
  · intro p q hq
    have hq' : State.port? { s with now := now, ticks := rest } p = some q := by cases p <;> exact hq
    exact ⟨q.hardReset, by rw [hardwareReset_port?, hq', Option.map_some], rfl, rfl⟩
  · intro x hx
    rw [List.eq_of_mem_replicate hx]
    exact ⟨rfl, rfl, rfl, rfl, rfl⟩
  · intro p q hq
    rw [reset_port? hq]
    exact ⟨rfl, rfl⟩

end Sys2Proof.Reset

/-! ## Enqueue (R103, R300, R305) -/

namespace Sys2Proof.Machine

/-- What Enqueue makes of the slot `x` (R305). -/
def Slot.filled (x : Slot) (retries : BitVec 8) (payload : List Byte) : Slot where
  state := .queued
  seq := 0
  retriesLeft := retries
  len := BitVec.ofNat 16 payload.length
  sentAt := 0
  ram := memWrite x.ram 0 payload

section

variable {s : State}

/-- The slots after Enqueue: the one after the ring is filled. -/
theorem enqueue_slots (payload : List Byte) :
    (enqueue payload s).ring.slots =
      (s.modSlot (s.ringIndex s.ring.count.toNat) (fun x => x.filled s.eff.retries payload)).ring.slots := rfl

/-- Where a slot is free, the place after the ring is not in the ring. -/
theorem State.ringIndex_count_notMem (s : State) (hroom : s.ring.count.toNat < s.w) :
    s.ringIndex s.ring.count.toNat ∉ s.ringOrder := by
  intro hmem
  obtain ⟨j, hj, he⟩ := List.mem_map.mp hmem
  have hlt : j < s.ring.count.toNat := List.mem_range.mp hj
  have : j = s.ring.count.toNat := s.ringIndex_inj (by omega) hroom he
  omega

/-- A slot after Enqueue. -/
theorem enqueue_slot (payload : List Byte) (j : Nat) (hlen : s.ringIndex s.ring.count.toNat < s.ring.slots.length) :
    (enqueue payload s).slot j =
      if j = s.ringIndex s.ring.count.toNat then
        (s.slot (s.ringIndex s.ring.count.toNat)).filled s.eff.retries payload
      else s.slot j := s.slot_modSlot _ j _ hlen

/-- Ring order after Enqueue. -/
theorem enqueue_ringOrder (payload : List Byte) (hroom : s.ring.count.toNat < s.w) :
    (enqueue payload s).ringOrder = s.ringOrder ++ [s.ringIndex s.ring.count.toNat] := by
  have hcount : (s.ring.count + 1).toNat = s.ring.count.toNat + 1 := by
    have := s.w_lt
    rw [BitVec.toNat_add]
    exact Nat.mod_eq_of_lt (by simp; omega)
  calc (enqueue payload s).ringOrder = (List.range (s.ring.count + 1).toNat).map s.ringIndex := rfl
    _ = s.ringOrder ++ [s.ringIndex s.ring.count.toNat] := by
      rw [hcount, List.range_succ, List.map_append]; rfl

end

/-- Settles O21: the slot after the ring by `State.ringIndex_count_notMem`, its contents by `enqueue_slot` and
`memRead_memWrite`. -/
theorem enqueueKeepsPayload : Obligations.EnqueueKeepsPayload := by
  intro s payload hinv _ hroom hshort i t
  have hw := s.w_lt
  have hlen : i < s.ring.slots.length := by
    have : i < s.w := s.ringIndex_lt _ (by omega)
    rw [hinv.seven]
    omega
  have hslot : t.slot i = (s.slot i).filled s.eff.retries payload :=
    (enqueue_slot payload i hlen).trans (if_pos rfl)
  have hpayload : (t.slot i).len.toNat = payload.length := by
    rw [hslot]; exact Nat.mod_eq_of_lt hshort
  refine ⟨hinv.freeOutside i (s.ringIndex_count_notMem hroom), by rw [hslot]; rfl, hpayload, ?_, ?_,
    enqueue_ringOrder payload hroom⟩
  · rw [State.slotPayload, hpayload, hslot]
    exact memRead_memWrite payload _ _ 0
  · intro j hj
    exact (enqueue_slot payload j hlen).trans (if_neg hj)

end Sys2Proof.Machine

/-! ## SEND_PACKET raises no event (R120, R538) -/

namespace Sys2Proof.Machine

/-- Every port of `s` has the channel in `t` that it has in `s`. -/
def SameEvents (s t : State) : Prop :=
  ∀ p q, s.port? p = some q → ∃ q', t.port? p = some q' ∧ q'.events = q.events

section

variable {s t : State}

theorem SameEvents.of_ports (h : ∀ p, t.port? p = s.port? p) : SameEvents s t :=
  fun p q hq => ⟨q, (h p).trans hq, rfl⟩

theorem SameEvents.refl (s : State) : SameEvents s s := .of_ports (fun _ => rfl)

/-- One port changes, and its channel does not. -/
theorem SameEvents.modPort (h : SameEvents s t) (p : PortId) {f : Port → Port} (hf : ∀ q, (f q).events = q.events) :
    SameEvents s (t.modPort p f) := by
  intro p' q hq
  obtain ⟨q', hq', he⟩ := h p' q hq
  rw [t.port?_modPort, hq']
  split
  · exact ⟨f q', rfl, (hf q').trans he⟩
  · exact ⟨q', rfl, he⟩

theorem SameEvents.respond (h : SameEvents s t) (res : Word) (dout : List Byte) : SameEvents s (respond res dout t) :=
  h.modPort _ (Port.answer_events _)

theorem SameEvents.refuse (h : SameEvents s t) (code : Word) : SameEvents s (refuse code t) := h.respond code []

theorem SameEvents.setCmd (h : SameEvents s t) (c : Cmd) : SameEvents s (setCmd c t) := h.modPort _ (fun _ => rfl)

end

/-- The issue of SEND_PACKET (R478). -/
theorem cmdSendPacket_sameEvents (payload : List Byte) (s : State) : SameEvents s (cmdSendPacket payload s) := by
  have h := SameEvents.refl s
  unfold cmdSendPacket inSession
  dsimp only
  split_ifs
  · exact h.refuse _
  · exact h.refuse _
  · exact h.refuse _
  · exact h.refuse _
  · exact (SameEvents.of_ports (enterConnecting_port? s)).setCmd _
  · exact h.setCmd _

/-- The completion of SEND_PACKET (R479). -/
theorem sendPacketStep_sameEvents (payload : List Byte) (tIssue : Time) (gen : Word) (s : State) :
    SameEvents s (sendPacketStep payload tIssue gen s) := by
  have h := SameEvents.refl s
  unfold sendPacketStep
  split_ifs
  · exact h.refuse _
  · exact (SameEvents.of_ports (fun p => enqueue_port? _ _ p)).respond _ _
  · exact h.refuse _
  · exact h

/-- A busy port goes on with its command at its micro-step (R46, R113). -/
theorem RunsNext.step_busy {p : PortId} {now : Time} {rest : List Tick} {q : Port} {s : State}
    (hrun : RunsNext p now rest q s) (hbusy : q.cmd ≠ .idle) : step s = .next (microStep q.cmd (sample p now rest s)) := by
  simp only [step, hrun.ticks, runTick, hrun.port, runPort, if_pos hbusy]

/-- Settles O20: `cmdSendPacket_sameEvents` for the issue and `sendPacketStep_sameEvents` for the completion. -/
theorem sendPacketRaisesNoEvent : Obligations.SendPacketRaisesNoEvent := by
  refine ⟨?_, ?_⟩
  · intro s payload t hexec
    cases hexec
    exact cmdSendPacket_sameEvents payload s
  · intro s p now rest q payload tIssue gen t hrun hcmd hstep
    have hsample : ∀ p', (sample p now rest s).port? p' = s.port? p' := fun p' => by cases p' <;> rfl
    rw [hrun.step_busy (by simp [hcmd]), hcmd] at hstep
    cases hstep
    intro p' q' hq'
    exact sendPacketStep_sameEvents payload tIssue gen _ p' q' ((hsample p').trans hq')

end Sys2Proof.Machine

/-! ## A slot becomes ACKED (R119, R302, R321) -/

namespace Sys2Proof.Machine

/-- Slot `i` is not ACKED. -/
def NotAcked (i : Nat) (s : State) : Prop := (s.slot i).state ≠ .acked

/-- No received N(R) can acknowledge anything: outside CONNECTED it is not read (R365), and in CONNECTED no sequence number is
open. -/
def NoneToAck (s : State) : Prop := s.fsm = .connected → s.win.confirmNs = s.win.nextNs

section

variable {i : Nat} {s t : State}

theorem NotAcked.of_slots (h : NotAcked i s) (hs : t.ring.slots = s.ring.slots) : NotAcked i t := by
  rw [NotAcked, State.slot, hs]; exact h

theorem NotAcked.of_ring (h : NotAcked i s) (hr : t.ring = s.ring) : NotAcked i t := h.of_slots (by rw [hr])

theorem notAcked_reset (i : Nat) : NotAcked i State.reset := by
  rw [NotAcked, reset_slot]; exact SlotState.noConfusion

/-- A change of one slot, whichever it is, that does not make it ACKED. -/
theorem NotAcked.modSlot (h : NotAcked i s) (j : Nat) {f : Slot → Slot}
    (hf : (f (s.slot j)).state ≠ .acked) : NotAcked i (s.modSlot j f) := by
  by_cases hj : j < s.ring.slots.length
  · rw [NotAcked, s.slot_modSlot j i f hj]
    split
    · exact hf
    · exact h
  · exact h.of_slots (List.modify_eq_self (Nat.le_of_not_lt hj))

/-- Slots are put into another state. -/
theorem NotAcked.markSlots (h : NotAcked i s) {p : Slot → Bool} (hp : p Slot.reset = false) {st : SlotState}
    (hst : st ≠ .acked) : NotAcked i (s.markSlots p st) := by
  rw [NotAcked, s.slot_markSlots p st i hp]
  split
  · exact hst
  · exact h

theorem NotAcked.failPending (h : NotAcked i s) : NotAcked i (failPending s) :=
  (h.markSlots (p := Slot.isPending) rfl (st := .failed) SlotState.noConfusion).of_ring rfl

theorem NotAcked.connect (h : NotAcked i s) : NotAcked i (enterConnected (resetSeq s)) :=
  (h.markSlots (p := Slot.isSent) rfl (st := .failed) SlotState.noConfusion).of_ring (connect_ring s)

/-- Timers, completions, selection and the encoder acknowledge nothing. -/
theorem notAcked_keptTx (i : Nat) : KeptTx (NotAcked i) where
  block _ _ hb h := h.of_ring hb.ring
  flags _ _ h := h
  times _ _ h := h
  counters _ _ _ h := h
  moves _ _ _ _ _ h := h
  fails _ _ h := h.markSlots rfl SlotState.noConfusion
  window _ _ _ h := h
  tag _ _ _ h := h
  builds _ _ _ _ h := h
  starts _ _ _ _ h := h
  sendsNew _ j _ _ _ h := NotAcked.modSlot (s := State.modWin _ _) h j SlotState.noConfusion
  resends _ j _ _ h := h.modSlot j SlotState.noConfusion
  polls _ _ _ h := h
  encodes _ _ _ _ h := h
  awaits _ j _ h := h.modSlot j SlotState.noConfusion
  frees s _ _ h := (h.modSlot s.ring.head.toNat (f := Slot.freed) SlotState.noConfusion).of_slots (deliverHead_slots s)

/-! ### Received frames -/

/-- Where no number is open, the only valid N(R) is `confirm_ns`, and it acknowledges nothing (R320, R321). -/
theorem processNR_of_none (nr : Seq) (h : s.win.confirmNs = s.win.nextNs) : (processNR nr s).1 = s := by
  unfold processNR
  split
  · next hv =>
    have h0 : (nr - s.win.confirmNs).toNat = 0 := by simpa [s.validNR_iff, ← h] using hv
    rw [h0]; rfl
  · rfl

theorem receiveI_ring_of_none (ns : Seq) (pf : Bool) (nr : Seq) (h : s.win.confirmNs = s.win.nextNs) :
    (receiveI ns pf nr s).ring = s.ring := by
  unfold receiveI receiveInSeq
  split
  · rw [owePoll_ring, processNR_of_none]
    · split <;> simp
    · split <;> simpa using h
  · exact receiveOutOfSeq_ring s

theorem processNR_owePoll_of_none (pf : Bool) (nr : Seq) (h : s.win.confirmNs = s.win.nextNs) :
    (processNR nr (owePoll pf s)).1 = owePoll pf s := processNR_of_none nr (by simpa using h)

theorem NotAcked.receiveREJ (h : NotAcked i s) (pf : Bool) (nr : Seq) (hn : s.win.confirmNs = s.win.nextNs) :
    NotAcked i (receiveREJ pf nr s) := by
  have hpoll : NotAcked i (owePoll pf s) := h.of_ring (owePoll_ring s pf)
  unfold Machine.receiveREJ
  simp only [processNR_owePoll_of_none pf nr hn]
  split
  · exact hpoll.markSlots (p := Slot.isSent) rfl (st := .queued) SlotState.noConfusion
  · exact hpoll

theorem NotAcked.frmrTrigger (h : NotAcked i s) : NotAcked i (frmrTrigger s) := h.of_ring (frmrTrigger_ring s)

theorem NotAcked.onFrame (h : NotAcked i s) (hn : NoneToAck s) {k : State → State}
    (hk : ∀ t, t.fsm ≠ .uninit → NoneToAck t → NotAcked i t → NotAcked i (k t)) : NotAcked i (onFrame k s) := by
  unfold Machine.onFrame
  split
  · exact h
  · next hs => exact hk _ (fun hu => hs (.inl hu)) hn h

theorem NotAcked.noPayload (h : NotAcked i s) {k : State → State} (hk : NotAcked i (k s)) : NotAcked i (noPayload k s) := by
  unfold Machine.noPayload
  split
  · exact hk
  · exact h.frmrTrigger

theorem NotAcked.rxSABM (h : NotAcked i s) : NotAcked i (rxSABM s) := by
  unfold Machine.rxSABM
  split
  · exact NotAcked.of_ring h.failPending.connect rfl
  · exact NotAcked.of_ring h.connect rfl

theorem NotAcked.rxUA (h : NotAcked i s) (hu : s.fsm ≠ .uninit) : NotAcked i (rxUA s) := by
  unfold Machine.rxUA
  split
  · exact h.connect
  · exact (notAcked_keptTx i).enterDisconnected hu h
  all_goals exact h

theorem NotAcked.rxDISC (h : NotAcked i s) (hu : s.fsm ≠ .uninit) : NotAcked i (rxDISC s) := by
  have howed : NotAcked i (oweUA s) := h
  have hdisc : NotAcked i (enterDisconnected (oweUA s)) := (notAcked_keptTx i).enterDisconnected hu howed
  unfold Machine.rxDISC
  split
  · exact hdisc
  · exact hdisc
  · exact hdisc
  all_goals exact howed

/-- A received frame acknowledges nothing where no number is open. -/
theorem NotAcked.receive (h : NotAcked i s) (hn : NoneToAck s) (f : Instr) : NotAcked i (receive f s) := by
  cases f
  case iFrame ns pf nr =>
    exact h.onFrame hn (fun t _ htn ht => KeptRx.whenConnected _
      (fun hc => ht.of_ring (receiveI_ring_of_none ns pf nr (htn hc))) ht)
  case rr pf nr =>
    refine h.onFrame hn (fun t _ htn ht => ht.noPayload (KeptRx.whenConnected _ (fun hc => ?_) ht))
    rw [receiveRR, processNR_owePoll_of_none pf nr (htn hc)]
    exact ht.of_ring (by simp)
  case rej pf nr =>
    exact h.onFrame hn (fun t _ htn ht => ht.noPayload (KeptRx.whenConnected _
      (fun hc => ht.receiveREJ pf nr (htn hc)) ht))
  case rnr pf nr =>
    refine h.onFrame hn (fun t _ htn ht => ht.noPayload (KeptRx.whenConnected _ (fun hc => ?_) ht))
    rw [receiveRNR, processNR_owePoll_of_none pf nr (htn hc)]
    exact ht.of_ring (by simp)
  case sReserved => exact h.onFrame hn (fun _ _ _ ht => ht.frmrTrigger)
  case sabm => exact h.onFrame hn (fun _ _ _ ht => ht.noPayload ht.rxSABM)
  case ua => exact h.onFrame hn (fun _ hu _ ht => ht.noPayload (ht.rxUA hu))
  case disc => exact h.onFrame hn (fun _ hu _ ht => ht.noPayload (ht.rxDISC hu))
  case frmr => exact h.onFrame hn (fun _ _ _ ht => ht)
  case uReserved => exact h.onFrame hn (fun _ _ _ ht => ht.frmrTrigger)
  all_goals exact h

/-! ### The decoder and the commands -/

theorem NotAcked.endOfFrame (h : NotAcked i s) (hn : NoneToAck s) : NotAcked i (endOfFrame s) := by
  unfold Machine.endOfFrame crcError processFrame
  split_ifs
  · exact h
  · exact h.of_ring (by simp)
  · exact h.receive hn _
  · exact h

/-- Only a flag ends a frame. -/
theorem NotAcked.decodeByte (h : NotAcked i s) {b : Byte} (hn : b = Config.flag → NoneToAck s) :
    NotAcked i (decodeByte b s) := by
  unfold Machine.decodeByte
  split
  · split
    · exact h
    · exact h
  · split_ifs with hflag
    · exact h.endOfFrame (hn hflag)
    · exact h
    · exact h.of_ring (storeByte_ring s b)
  · split
    · exact h
    · exact h.of_ring (storeByte_ring _ _)

theorem NotAcked.enqueue (h : NotAcked i s) (payload : List Byte) : NotAcked i (enqueue payload s) :=
  (h.modSlot _ (f := fun x => x.filled s.eff.retries payload) SlotState.noConfusion).of_slots (enqueue_slots payload)

theorem NotAcked.rxPutStep (h : NotAcked i s) {din : List Byte} (hn : ∀ more, din = Config.flag :: more → NoneToAck s) :
    NotAcked i (rxPutStep din s) := by
  have k := notAcked_keptTx i
  cases din with
  | nil => exact k.respond _ _ h
  | cons b more =>
    have hb : NotAcked i (Machine.decodeByte b s) := h.decodeByte (fun e => hn more (by rw [e]))
    unfold Machine.rxPutStep
    dsimp only
    split_ifs
    · exact k.respond _ _ h
    · exact k.respond _ _ hb
    · exact k.setCmd _ hb

theorem NotAcked.microStep (h : NotAcked i s) {c : Cmd}
    (hn : ∀ more, c = .rxPut (Config.flag :: more) → NoneToAck s) : NotAcked i (microStep c s) := by
  have k := notAcked_keptTx i
  cases c with
  | idle => exact h
  | txGet left dout ended => exact k.txGetStep left dout ended h
  | rxPut din => exact h.rxPutStep (fun more e => hn more (by rw [e]))
  | sendPacket payload tIssue gen =>
    simp only [Machine.microStep, sendPacketStep]
    split_ifs
    · exact k.refuse _ h
    · exact k.respond _ _ (h.enqueue payload)
    · exact k.refuse _ h
    · exact h
  | close =>
    simp only [Machine.microStep, closePhase2]
    split
    · exact h
    · exact k.respond _ _ ((notAcked_reset i).of_ring rfl)

theorem checkRow_eq {zero din : Bool} {f j : Instr} (h : checkRow zero din f = .ok j) : f = j := by
  unfold checkRow at h
  split_ifs at h
  exact Except.ok.inj h

/-- No request spells a frame: what it spells does nothing where a frame is received (R132). -/
theorem decodeRequest_receive {r : Request} {f : Instr} (h : decodeRequest r = .ok f) (s : State) : receive f s = s := by
  unfold decodeRequest at h
  dsimp only at h
  split at h
  case h_13 => cases h
  all_goals
    cases checkRow_eq h
    rfl

theorem decodeOp_receive {op : HostOp} {f : Instr} (h : decodeOp op = some f) (s : State) : receive f s = s := by
  rcases decodeOp_cases h with ⟨r, _, hr⟩ | ⟨w, rfl⟩ | ⟨l, rfl⟩ | ⟨b, rfl⟩
  · exact decodeRequest_receive hr s
  all_goals rfl

/-- An accepted instruction acknowledges nothing. -/
theorem NotAcked.exec (h : NotAcked i s) {f : Instr} (hf : Machine.receive f s = s) (hexec : exec f s = .next t) :
    NotAcked i t := by
  have k := notAcked_keptTx i
  cases f <;> cases hexec
  case init =>
    unfold cmdInit
    split_ifs
    · exact k.refuse _ h
    · exact k.refuse _ h
    · exact k.respond _ _ ((notAcked_reset i).of_ring rfl)
  case close =>
    apply k.inSession _ h
    intro _
    split
    · exact k.refuse _ h
    · exact k.setCmd _ (k.bumpFailGen h)
  case status => exact k.cmdStatus h
  case disconnect => exact k.cmdDisconnect h
  case txGet n => exact k.cmdTxGet n h
  case rxPut din => exact k.cmdRxPut din h
  case sendPacket payload => exact k.cmdSendPacket payload h
  case getMtu => exact k.cmdGetMtu h
  case setKaTimeout => exact k.inSession _ h (fun _ => k.respond _ _ h)
  case bufferSize m w c => exact k.cmdBufferSize m w c h
  case readReg n => exact k.cmdReadReg n h
  case writeReg n v =>
    unfold cmdWriteReg
    split
    · exact k.respond _ _ h
    · exact k.refuse _ h
  case runTx => exact k.setProc _ h
  case runRx => exact k.setProc _ h
  case send => exact k.setProc _ h
  all_goals exact h.of_ring (congrArg State.ring hf)

/-- Every step but the receipt of a flag acknowledges nothing, and that one does so only where a number is open. -/
theorem NotAcked.step (h : NotAcked i s) (hstep : step s = .next t)
    (hn : ∀ p now rest q more, RunsNext p now rest q s → q.cmd = .rxPut (Config.flag :: more) → NoneToAck s) :
    NotAcked i t := by
  have k := notAcked_keptTx i
  have hsample : ∀ p now rest, NotAcked i (sample p now rest s) := fun _ _ _ => h
  have hpop : ∀ p now rest, NotAcked i (popQueue (sample p now rest s)) := fun p now rest =>
    h.of_ring (popQueue_sample_sameBlock p now rest s).ring
  cases step_cases hstep with
  | rests _ => exact h
  | resets now rest _ => exact (notAcked_reset i).of_ring rfl
  | takesEvent p now rest => exact h.of_ring (takeEvent_sameBlock p now rest s).ring
  | continues p now rest q hrun _ => exact (hsample p now rest).microStep (fun more hc => hn p now rest q more hrun hc)
  | proceeds p now rest pr reply => exact k.procStep pr reply (hsample p now rest)
  | waits p now rest => exact hsample p now rest
  | rejects p now rest => exact k.refuse _ (hpop p now rest)
  | accepts p now rest q op l f _ _ _ _ hop hexec => exact (hpop p now rest).exec (decodeOp_receive hop _) hexec

end

/-- Where only RXP carries an RX_PUT, a port that carries one is RXP (R132). -/
theorem RunsNext.eq_rxp {s : State} {p : PortId} {now : Time} {rest : List Tick} {q : Port} {din : List Byte}
    (hports : PortsLegal s) (hrun : RunsNext p now rest q s) (hcmd : q.cmd = .rxPut din) : p = .rxp := by
  have haccepts : p.Accepts q.cmd := (portsLegal_iff s).mp hports p q.cmd hrun.cmd?
  rwa [hcmd] at haccepts

/-- Settles O60: `NotAcked.step`, read backwards. -/
theorem onlyFramesAcknowledge : Obligations.OnlyFramesAcknowledge := by
  intro s t i hports hstep hs ht
  by_contra hnone
  refine NotAcked.step hs hstep (fun p now rest q more hrun hcmd hconnected => ?_) ht
  obtain rfl := hrun.eq_rxp hports hcmd
  by_contra hopen
  exact hnone ⟨hconnected, hopen, now, rest, q, more, hrun, hcmd⟩

end Sys2Proof.Machine

/-! ## The fields of a spelling (R131, R141–R143) -/

namespace Sys2Proof

/-! ### Command words -/

@[simp] theorem opcOf_makeCw (opc idx : Byte) (len : BitVec 16) : opcOf (makeCw opc idx len) = opc := by
  ext i hi
  simp [opcOf, makeCw, hi, show i < 16 by omega, show i < 32 by omega]

@[simp] theorem idxOf_makeCw (opc idx : Byte) (len : BitVec 16) : idxOf (makeCw opc idx len) = idx := by
  ext i hi
  simp [idxOf, makeCw, hi, show 8 + i < 16 by omega, show 8 + i < 32 by omega]

@[simp] theorem lenOf_makeCw (opc idx : Byte) (len : BitVec 16) : lenOf (makeCw opc idx len) = len := by
  ext i hi
  simp [lenOf, makeCw, hi, show 16 + i < 32 by omega, show 8 ≤ 16 + i - 8 by omega,
    BitVec.getLsbD_of_ge opc (16 + i) (by omega)]

/-- A command word is its three fields. -/
theorem makeCw_fields (cw : Word) : makeCw (opcOf cw) (idxOf cw) (lenOf cw) = cw := by
  ext i hi
  interval_cases i <;> simp [makeCw, opcOf, idxOf, lenOf, BitVec.getLsbD_eq_getElem]

/-! ### Control octets: each field read back, and the octet from its fields -/

section
variable (ns : Seq) (ty : BitVec 2) (pf : Bool) (nr : Seq) (kind : BitVec 6)

@[simp] theorem ctrlI_bit0 : (ctrlI ns pf nr)[0] = false := by simp [ctrlI]

@[simp] theorem ctrlI_ns : (ctrlI ns pf nr).extractLsb' 1 3 = ns := by
  ext i hi
  interval_cases i <;> simp [ctrlI, BitVec.getLsbD_eq_getElem]

@[simp] theorem ctrlI_pf : (ctrlI ns pf nr)[4] = pf := by simp [ctrlI]

@[simp] theorem ctrlI_nr : (ctrlI ns pf nr).extractLsb' 5 3 = nr := by
  ext i hi
  interval_cases i <;> simp [ctrlI, BitVec.getLsbD_eq_getElem]

@[simp] theorem ctrlS_bit0 : (ctrlS ty pf nr)[0] = true := by simp [ctrlS]

@[simp] theorem ctrlS_bit1 : (ctrlS ty pf nr)[1] = false := by simp [ctrlS]

@[simp] theorem ctrlS_type : (ctrlS ty pf nr).extractLsb' 2 2 = ty := by
  ext i hi
  interval_cases i <;> simp [ctrlS, BitVec.getLsbD_eq_getElem]

@[simp] theorem ctrlS_pf : (ctrlS ty pf nr)[4] = pf := by simp [ctrlS]

@[simp] theorem ctrlS_nr : (ctrlS ty pf nr).extractLsb' 5 3 = nr := by
  ext i hi
  interval_cases i <;> simp [ctrlS, BitVec.getLsbD_eq_getElem]

@[simp] theorem ctrlU_bit0 : (ctrlU kind)[0] = true := by simp [ctrlU]

@[simp] theorem ctrlU_bit1 : (ctrlU kind)[1] = true := by simp [ctrlU]

@[simp] theorem ctrlU_kind : (ctrlU kind).extractLsb' 2 6 = kind := by
  ext i hi
  interval_cases i <;> simp [ctrlU, BitVec.getLsbD_eq_getElem]

/-- The assigned U octets are the spellings of the assigned kinds (R143). -/
theorem mem_assignedU :
    kind ∈ assignedU ↔ ctrlU kind = 0x2F#8 ∨ ctrlU kind = 0x63#8 ∨ ctrlU kind = 0x43#8 ∨ ctrlU kind = 0x87#8 := by
  revert kind; decide

end

/-- Every control octet spells an I, an S or a U frame (R140). -/
theorem octet_cases (b : Byte) :
    (∃ ns pf nr, b = ctrlI ns pf nr) ∨ (∃ ty pf nr, b = ctrlS ty pf nr) ∨ ∃ kind, b = ctrlU kind := by
  by_cases h0 : b[0]
  · refine .inr ?_
    by_cases h1 : b[1]
    · refine .inr ⟨b.extractLsb' 2 6, ?_⟩
      ext i hi
      interval_cases i <;> simp [ctrlU, h0, h1, BitVec.getLsbD_eq_getElem]
    · refine .inl ⟨b.extractLsb' 2 2, b[4], b.extractLsb' 5 3, ?_⟩
      ext i hi
      interval_cases i <;> simp [ctrlS, h0, h1, BitVec.getLsbD_eq_getElem]
  · refine .inl ⟨b.extractLsb' 1 3, b[4], b.extractLsb' 5 3, ?_⟩
    ext i hi
    interval_cases i <;> simp [ctrlI, h0, BitVec.getLsbD_eq_getElem]

/-! ## Control octets decode to what they spell (R140–R144) -/

theorem decodeCtrl_ctrlI (ns : Seq) (pf : Bool) (nr : Seq) : decodeCtrl (ctrlI ns pf nr) = .iFrame ns pf nr := by
  simp [decodeCtrl]

/-- The two type bits of an S octet choose its frame (R142, R144). -/
theorem decodeCtrl_ctrlS (ty : BitVec 2) (pf : Bool) (nr : Seq) :
    decodeCtrl (ctrlS ty pf nr) =
      if ty = 0b00 then .rr pf nr else if ty = 0b01 then .rej pf nr else if ty = 0b10 then .rnr pf nr else .sReserved pf nr := by
  simp [decodeCtrl]

theorem decodeCtrl_ctrlU {kind : BitVec 6} (h : kind ∉ assignedU) : decodeCtrl (ctrlU kind) = .uReserved kind := by
  rw [mem_assignedU] at h
  push Not at h
  obtain ⟨hsabm, hua, hdisc, hfrmr⟩ := h
  simp [decodeCtrl, hsabm, hua, hdisc, hfrmr]

theorem decodeCtrl_encode {i : Instr} {c : Byte} (hwf : i.wf = true) (h : encode i = some (.octet c)) : decodeCtrl c = i := by
  cases i <;> cases h
  case iFrame ns pf nr => exact decodeCtrl_ctrlI ns pf nr
  case rr pf nr => exact decodeCtrl_ctrlS 0b00 pf nr
  case rej pf nr => exact decodeCtrl_ctrlS 0b01 pf nr
  case rnr pf nr => exact decodeCtrl_ctrlS 0b10 pf nr
  case sReserved pf nr => exact decodeCtrl_ctrlS 0b11 pf nr
  case uReserved kind => exact decodeCtrl_ctrlU (of_decide_eq_true hwf)
  all_goals rfl

/-- A control octet spells what it decodes to. -/
theorem encode_decodeCtrl (c : Byte) : (decodeCtrl c).wf = true ∧ encode (decodeCtrl c) = some (.octet c) := by
  obtain ⟨ns, pf, nr, rfl⟩ | ⟨ty, pf, nr, rfl⟩ | ⟨kind, rfl⟩ := octet_cases c
  · rw [decodeCtrl_ctrlI]
    exact ⟨rfl, rfl⟩
  · have types : ∀ ty : BitVec 2, ty = 0b00 ∨ ty = 0b01 ∨ ty = 0b10 ∨ ty = 0b11 := by decide
    rw [decodeCtrl_ctrlS]
    obtain rfl | rfl | rfl | rfl := types ty <;> exact ⟨rfl, rfl⟩
  · by_cases hkind : kind ∈ assignedU
    · revert kind
      decide
    · rw [decodeCtrl_ctrlU hkind]
      exact ⟨decide_eq_true hkind, rfl⟩

/-! ## Requests decode to what they spell (R131–R134) -/

theorem checkRow_eq_ok {zero din : Bool} {f i : Instr} :
    checkRow zero din f = .ok i ↔ zero = true ∧ din = true ∧ f = i := by
  cases zero <;> cases din <;> simp [checkRow]

/-! ### BUFFER_SIZE: the CRC code is bits 7 to 0 of ARG, and the others are 0 -/

theorem highBits_eq_zero_iff (arg : Word) : arg.extractLsb' 8 24 = 0#24 ↔ arg.toNat < 256 := by
  have := arg.isLt
  rw [← BitVec.toNat_inj, BitVec.extractLsb'_toNat, Nat.shiftRight_eq_div_pow, BitVec.toNat_zero]
  omega

theorem highBits_setWidth (crc : Byte) : (crc.setWidth 32).extractLsb' 8 24 = 0#24 := by
  have := crc.isLt
  rw [highBits_eq_zero_iff, BitVec.toNat_setWidth]
  omega

theorem lowByte_setWidth (crc : Byte) : (crc.setWidth 32).extractLsb' 0 8 = crc := by
  ext i hi
  simp [hi, show i < 32 by omega]

theorem setWidth_lowByte {arg : Word} (h : arg.extractLsb' 8 24 = 0#24) : (arg.extractLsb' 0 8).setWidth 32 = arg := by
  rw [highBits_eq_zero_iff] at h
  apply BitVec.eq_of_toNat_eq
  rw [BitVec.toNat_setWidth, BitVec.extractLsb'_toNat, Nat.shiftRight_zero]
  omega

/-! ### From an instruction to its request and back -/

section
variable {r : Request} {i : Instr}

theorem decodeRequest_encode (hwf : i.wf = true) (h : encode i = some (.request r)) : decodeRequest r = .ok i := by
  cases i <;> cases h
  case rxPut bytes | sendPacket bytes =>
    have hlen : bytes.length < 65536 := of_decide_eq_true hwf
    simp [decodeRequest, checkRow_eq_ok, Nat.mod_eq_of_lt hlen]
  all_goals simp [decodeRequest, checkRow_eq_ok, highBits_setWidth, lowByte_setWidth]

end

end Sys2Proof

namespace Sys2Proof.Machine

section
variable {r : Request} {i : Instr} {row : CommandRow}

/-- `CommandRow.Fits` in the names of the decoder. -/
theorem CommandRow.fits_iff : row.Fits r ↔
    opcOf r.cw = row.opc ∧ (row.idx = .zero → idxOf r.cw = 0) ∧ (row.len = .zero → lenOf r.cw = 0) ∧
    (row.arg = .zero → r.arg = 0) ∧ (row.arg = .low8 → r.arg.toNat < 256) ∧
    (row.din = .zero → r.din = []) ∧ (row.din = .lenBytes → r.din.length = (lenOf r.cw).toNat) :=
  ⟨fun ⟨opc, idx, len, arg, argLow, dinEmpty, dinLen⟩ => ⟨opc, idx, len, arg, argLow, dinEmpty, dinLen⟩,
   fun ⟨opc, idx, len, arg, argLow, dinEmpty, dinLen⟩ => ⟨opc, idx, len, arg, argLow, dinEmpty, dinLen⟩⟩

/-- With the opcode of a row, a request decodes where it keeps to that row. -/
theorem decodes_iff_fits (hrow : row ∈ commandTable) (hopc : opcOf r.cw = row.opc) :
    (∃ i, decodeRequest r = .ok i) ↔ row.Fits r := by
  fin_cases hrow
  all_goals simp [decodeRequest, CommandRow.fits_iff, hopc, checkRow_eq_ok, highBits_eq_zero_iff, and_assoc]

theorem decodeRequest_reserved (h : ∀ row ∈ commandTable, opcOf r.cw ≠ row.opc) :
    decodeRequest r = .error (.reservedOpcode (opcOf r.cw)) := by
  simp [commandTable, ← BitVec.toNat_inj] at h
  unfold decodeRequest
  dsimp only
  split
  case h_13 => rfl
  all_goals simp_all

/-- A request that decodes has the opcode of a row. -/
theorem exists_row_of_decodeRequest (h : decodeRequest r = .ok i) : ∃ row ∈ commandTable, opcOf r.cw = row.opc := by
  by_contra! hnone
  rw [decodeRequest_reserved hnone] at h
  cases h

/-- A request spells what it decodes to: the checks of its row fix every field that the instruction does not carry. -/
theorem encode_decodeRequest (h : decodeRequest r = .ok i) : i.wf = true ∧ encode i = some (.request r) := by
  obtain ⟨row, hrow, hopc⟩ := exists_row_of_decodeRequest h
  obtain ⟨cw, arg, din⟩ := r
  rw [← makeCw_fields cw] at hopc h ⊢
  generalize opcOf cw = opc, idxOf cw = idx, lenOf cw = len at hopc h ⊢
  rw [opcOf_makeCw] at hopc
  subst hopc
  have hlen : len.toNat < 65536 := len.isLt
  fin_cases hrow
  all_goals
    simp only [decodeRequest, opcOf_makeCw, idxOf_makeCw, lenOf_makeCw] at h
    obtain ⟨hzero, hdin, rfl⟩ := checkRow_eq_ok.mp h
    simp only [decide_eq_true_eq, List.isEmpty_iff] at hzero hdin
    simp_all [Instr.wf, encode, setWidth_lowByte]

/-- A request decodes where it keeps to a row of R132. -/
theorem decodes_iff : (∃ i, decodeRequest r = .ok i) ↔ ∃ row ∈ commandTable, row.Fits r where
  mp h := by
    obtain ⟨row, hrow, hopc⟩ := exists_row_of_decodeRequest h.choose_spec
    exact ⟨row, hrow, (decodes_iff_fits hrow hopc).mp h⟩
  mpr := fun ⟨_, hrow, hfits⟩ => (decodes_iff_fits hrow hfits.opc).mpr hfits

/-- The decoder rejects exactly the requests that keep to no row (R134). -/
theorem malformed_iff : Malformed r ↔ ∃ e, decodeRequest r = .error e := by
  have hnone : Malformed r ↔ ¬ ∃ i, decodeRequest r = .ok i := by simp [decodes_iff, Malformed]
  rw [hnone]
  cases decodeRequest r <;> simp

end

/-- Settles O1, a request by `decodeRequest_encode` and a control octet by `decodeCtrl_encode`. -/
theorem decodeOfEncode : Obligations.DecodeOfEncode := by
  intro i hwf c hc
  cases c with
  | request r => exact decodeRequest_encode hwf hc
  | octet c => exact congrArg Except.ok (decodeCtrl_encode hwf hc)

/-- Settles O2: `encode_decodeRequest`, `encode_decodeCtrl` and `malformed_iff`. -/
theorem encodeOfDecode : Obligations.EncodeOfDecode :=
  ⟨fun _ _ => encode_decodeRequest, encode_decodeCtrl, fun _ => malformed_iff⟩

/-! ## A malformed request is refused (R134) -/

/-- A change of a port reads only how the port stands. -/
theorem State.modPort_congr {s : State} {p : PortId} {q : Port} {f g : Port → Port} (hq : s.port? p = some q)
    (h : f q = g q) : s.modPort p f = s.modPort p g := by
  cases p with
  | txp => cases hq; simp [State.modPort, h]
  | rxp => cases hq; simp [State.modPort, h]
  | app n =>
    have hmodify : s.apps.modify n f = s.apps.modify n g := by
      apply List.ext_getElem?
      intro m
      rw [List.getElem?_modify, List.getElem?_modify]
      split_ifs with hm
      · subst hm
        rw [show s.apps[n]? = some q from hq]
        exact congrArg some h
      · rfl
    simp [State.modPort, hmodify]

/-- A step of a port that runs. -/
theorem RunsNext.step_eq {s : State} {p : PortId} {now : Time} {rest : List Tick} {q : Port} (h : RunsNext p now rest q s) :
    step s = runPort q (sample p now rest s) := by
  simp [step, runTick, h.ticks, h.port]

/-- An idle port turns a malformed request away. -/
theorem runPort_malformed {s : State} {q : Port} {r : Request} {l : List HostOp} (hcmd : q.cmd = .idle) (hproc : q.proc = none)
    (hqueue : q.queue = .request r :: l) (hr : Malformed r) :
    runPort q s = .next (refuse Res.invalidData (popQueue s)) := by
  obtain ⟨e, he⟩ := malformed_iff.mp hr
  simp [runPort, accept, hcmd, hproc, hqueue, decodeOp, he]

/-- Settles O5: the request leaves the queue, and `refuse_answeredOnly` says what the refusal does. -/
theorem malformedRequestRefused : Obligations.MalformedRequestRefused := by
  intro s p now rest q r l hrun hcmd hproc hqueue hr
  have hport : (sample p now rest s).port? p = some q := by cases p <;> exact hrun.port
  have hpop : popQueue (sample p now rest s) = (sample p now rest s).modPort p (fun q => { q with queue := l }) :=
    State.modPort_congr hport (by rw [hqueue, List.tail_cons])
  refine ⟨_, hrun.step_eq.trans (runPort_malformed hcmd hproc hqueue hr), ?_⟩
  rw [hpop]
  exact refuse_answeredOnly Res.invalidData _

/-! ## Words and check values (R131, R132, R141–R143, R201–R203) -/

/-- Settles O3: every word and every check value is a closed term, which the decoder and the CRC functions evaluate. -/
theorem knownWords : Obligations.KnownWords :=
  ⟨⟨rfl, rfl, rfl, rfl, rfl, rfl⟩, by decide, by decide +kernel⟩

end Sys2Proof.Machine

/-! ## The framer decoder, byte by byte (R238–R244) -/

namespace Sys2Proof.Machine

section

variable {s : State}

/-- The capacity of RxBuf is a length that 16 bits and a carry hold (R100, log 6). -/
theorem State.rxCapacity_lt (s : State) : s.rxCapacity < 131072 := by
  have hmtu := s.eff.mtu.isLt
  have hcrc := s.eff.crcLen.isLt
  simp only [State.rxCapacity, Config.header]
  omega

theorem storeByte_full (v : Byte) (hfull : s.dec.stored = s.rxCapacity) :
    storeByte v s = s.modDec (fun d => { d.clear with state := .hunt }) := if_pos hfull

theorem storeByte_room (v : Byte) (hroom : s.dec.stored ≠ s.rxCapacity) :
    storeByte v s = s.modDec (Decoder.push v) := if_neg hroom

/-! ### In HUNT -/

theorem decodeByte_hunt_flag (h : s.dec.state = .hunt) :
    decodeByte Config.flag s = s.modDec (fun d => { d.clear with state := .reading }) := by
  simp only [decodeByte, h, if_true]

theorem decodeByte_hunt_other (h : s.dec.state = .hunt) {b : Byte} (hb : b ≠ Config.flag) : decodeByte b s = s := by
  simp only [decodeByte, h, hb, if_false]

/-! ### In READING -/

theorem decodeByte_reading_flag (h : s.dec.state = .reading) :
    decodeByte Config.flag s = (endOfFrame s).modDec Decoder.clear := by
  simp only [decodeByte, h, if_true]

theorem decodeByte_reading_esc (h : s.dec.state = .reading) :
    decodeByte Config.esc s = s.modDec (fun d => { d with state := .escape }) := by
  have hne : Config.esc ≠ Config.flag := by decide
  simp only [decodeByte, h, hne, if_true, if_false]

theorem decodeByte_reading_other (h : s.dec.state = .reading) {b : Byte} (hf : b ≠ Config.flag) (he : b ≠ Config.esc) :
    decodeByte b s = storeByte b s := by
  simp only [decodeByte, h, hf, he, if_false]

/-! ### In ESCAPE -/

theorem decodeByte_escape_flag (h : s.dec.state = .escape) :
    decodeByte Config.flag s = s.modDec (fun d => { d.clear with state := .reading }) := by
  simp only [decodeByte, h, if_true]

theorem decodeByte_escape_other (h : s.dec.state = .escape) {b : Byte} (hb : b ≠ Config.flag) :
    decodeByte b s = storeByte (b ^^^ Config.escMask) (s.modDec (fun d => { d with state := .reading })) := by
  simp only [decodeByte, h, hb, if_false]

/-! ### At the end of a frame -/

theorem State.rxLongEnough_iff (s : State) : s.rxLongEnough = true ↔ 2 + s.eff.crcLen.toNat ≤ s.dec.stored :=
  decide_eq_true_iff

theorem State.rxCrcGood_iff (s : State) : s.rxCrcGood = true ↔ s.rxTail = crcBytes s.crcKind s.rxBody := decide_eq_true_iff

theorem endOfFrame_short (h : s.dec.stored < 2 + s.eff.crcLen.toNat) : endOfFrame s = s :=
  if_pos (decide_eq_false (Nat.not_le.mpr h))

theorem endOfFrame_badCrc (hlong : s.rxLongEnough = true) (hbad : s.rxCrcGood = false) : endOfFrame s = crcError s := by
  simp only [endOfFrame, hlong, hbad, Bool.true_eq_false, if_true, if_false]

theorem endOfFrame_good (hlong : s.rxLongEnough = true) (hgood : s.rxCrcGood = true) : endOfFrame s = processFrame s := by
  simp only [endOfFrame, hlong, hgood, Bool.true_eq_false, if_false]

theorem processFrame_ours (h : s.rxAddr = Config.addr) : processFrame s = receive (decodeCtrl s.rxCtrl) s := if_pos h

theorem processFrame_other (h : s.rxAddr ≠ Config.addr) : processFrame s = s := if_neg h

end

/-- Settles O31: one equation of `decodeByte` for each state and kind of byte, and of `endOfFrame` for each way a frame is
dropped. -/
theorem decoderDrops : Obligations.DecoderDrops := by
  intro s b
  refine ⟨fun h => decodeByte_hunt_other h, decodeByte_hunt_flag, decodeByte_escape_flag, decodeByte_reading_esc,
    ?_, ?_, ?_, ?_, ?_, ?_, ?_⟩
  · intro h hf he hfull
    exact (decodeByte_reading_other h hf he).trans (storeByte_full b hfull)
  · intro h hf he hroom
    rw [decodeByte_reading_other h hf he, storeByte_room b hroom, ← h]
    rfl
  · intro h hf hfull
    exact (decodeByte_escape_other h hf).trans (storeByte_full _ hfull)
  · intro h hf hroom
    exact (decodeByte_escape_other h hf).trans (storeByte_room _ hroom)
  · intro h hshort
    exact (decodeByte_reading_flag h).trans (by rw [endOfFrame_short hshort]; rfl)
  · intro h hlong hbad
    exact (decodeByte_reading_flag h).trans
      (by rw [endOfFrame_badCrc (s.rxLongEnough_iff.mpr hlong) (decide_eq_false hbad)]; rfl)
  · intro h hlong hgood haddr
    exact (decodeByte_reading_flag h).trans
      (by rw [endOfFrame_good (s.rxLongEnough_iff.mpr hlong) (s.rxCrcGood_iff.mpr hgood), processFrame_other haddr]; rfl)

end Sys2Proof.Machine

/-! ## The receipt of a frame at its closing flag (R239, R241, R360) -/

namespace Sys2Proof.Machine

/-- The meaning of an instruction that a control octet spells is the receipt of that frame (log 10). -/
theorem exec_eq_receive {i : Instr} {c : Byte} (h : encode i = some (.octet c)) (s : State) : exec i s = .next (receive i s) := by
  cases i <;> cases h
  all_goals rfl

theorem exec_decodeCtrl (c : Byte) (s : State) : exec (decodeCtrl c) s = .next (receive (decodeCtrl c) s) :=
  exec_eq_receive (encode_decodeCtrl c).2 s

section

variable {s : State}

/-- The flag after a good frame runs ProcessFrame and opens the next frame (R238, R239). -/
theorem decodeByte_goodFrame (hreading : s.dec.state = .reading) (hlong : s.rxLongEnough = true) (hgood : s.rxCrcGood = true) :
    decodeByte Config.flag s = (processFrame s).modDec Decoder.clear := by
  rw [decodeByte_reading_flag hreading, endOfFrame_good hlong hgood]

/-- RX_PUT takes its last byte (R477). -/
theorem rxPutStep_last (h : s.closing = false) (b : Byte) :
    rxPutStep [b] s = respond Res.success [] (decodeByte b s) := by
  simp [rxPutStep, h]

/-- RX_PUT takes a byte that others follow (R477). -/
theorem rxPutStep_more (h : s.closing = false) (b : Byte) {more : List Byte} (hmore : more ≠ []) :
    rxPutStep (b :: more) s = setCmd (.rxPut more) (decodeByte b s) := by
  simp [rxPutStep, h, hmore]

end

/-- Settles O7: by `decodeByte_goodFrame` the flag is the receipt that `exec_decodeCtrl` answers, and then the RX_PUT is answered
(`rxPutStep_last`) or goes on (`rxPutStep_more`). -/
theorem stepRunsFrame : Obligations.StepRunsFrame := by
  intro s now rest q more hrun hcmd hrunning hreading hlong hgood haddr
  let s1 := sample .rxp now rest s
  let u := receive (decodeCtrl s.rxCtrl) s1
  have hstep : step s = .next (rxPutStep (Config.flag :: more) s1) := by
    rw [hrun.step_busy (by simp [hcmd]), hcmd]
    rfl
  have hflag : decodeByte Config.flag s1 = u.modDec Decoder.clear := by
    rw [decodeByte_goodFrame (s := s1) hreading (s1.rxLongEnough_iff.mpr hlong) (s1.rxCrcGood_iff.mpr hgood),
      processFrame_ours (s := s1) haddr]
    rfl
  refine ⟨u, _, exec_decodeCtrl _ s1, hstep, ?_, ?_⟩
  · rintro rfl
    rw [rxPutStep_last (s := s1) hrunning.notClosing, hflag]
    exact respond_answeredOnly Res.success [] _
  · intro hmore
    rw [rxPutStep_more (s := s1) hrunning.notClosing _ hmore, hflag]
    have hcleared : SameInputs u (u.modDec Decoder.clear) := ⟨rfl, rfl, rfl⟩
    exact ⟨State.modPort_sameBlock _ _ _, hcleared.trans (State.modPort_sameInputs _ _ _),
      setCmd_nowBusy (.rxPut more) (u.modDec Decoder.clear)⟩

end Sys2Proof.Machine

/-! ## The decoder over a stuffed frame (R231, R247) -/

namespace Sys2Proof.Machine

/-! ### Reads of a written frame -/

/-- The first byte of a read, and the rest. -/
theorem memRead_cons (m : Memory) (r : Ram) (a n : Nat) :
    memRead m r a (n + 1) = m.read r a :: memRead m r (a + 1) n := by
  rw [Nat.add_comm, memRead_add]
  simp [memRead]

/-- A read of two lists one after the other reads each of them. -/
theorem memRead_append {m : Memory} {r : Ram} {a n k : Nat} {xs ys : List Byte} (h : memRead m r a (n + k) = xs ++ ys)
    (hn : xs.length = n) : memRead m r a n = xs ∧ memRead m r (a + n) k = ys := by
  rw [memRead_add] at h
  exact List.append_inj h (by rw [memRead_length, hn])

@[simp] theorem crcBytes_length (k : CrcKind) (data : List Byte) : (crcBytes k data).length = k.len := by
  cases k <;> simp [crcBytes, CrcKind.len, leBytes]

/-- RxBuf holds the frame with the address `a`, the control octet `c` and the payload `p`, its CRC included, and the decoder
has counted its bytes. -/
structure State.RxHolds (s : State) (a c : Byte) (p : List Byte) : Prop where
  crcLen : s.eff.crcLen.toNat = s.crcKind.len
  stored : s.dec.stored = (a :: c :: p).length + s.crcKind.len
  bytes : memRead s.dec.buf .rx 0 ((a :: c :: p).length + s.crcKind.len) = a :: c :: p ++ crcBytes s.crcKind (a :: c :: p)

namespace State.RxHolds

variable {s : State} {a c : Byte} {p : List Byte} (h : s.RxHolds a c p)

include h

theorem bodyLen : s.dec.stored - s.eff.crcLen.toNat = (a :: c :: p).length := by
  rw [h.stored, h.crcLen, Nat.add_sub_cancel]

theorem rxBody : s.rxBody = a :: c :: p := by
  rw [State.rxBody, h.bodyLen]
  exact (memRead_append h.bytes rfl).1

theorem rxTail : s.rxTail = crcBytes s.crcKind (a :: c :: p) := by
  rw [State.rxTail, h.bodyLen, h.crcLen]
  simpa using (memRead_append h.bytes rfl).2

theorem rxLongEnough : s.rxLongEnough = true := by
  rw [s.rxLongEnough_iff, h.stored, h.crcLen]
  simp only [List.length_cons]
  omega

theorem rxCrcGood : s.rxCrcGood = true := by
  rw [s.rxCrcGood_iff, h.rxTail, h.rxBody]

/-- Address, control octet and payload, where each is read. -/
theorem fields : s.rxAddr = a ∧ s.rxCtrl = c ∧ s.rxPayload = p := by
  have hbody : memRead s.dec.buf .rx 0 (p.length + 1 + 1) = a :: c :: p := (memRead_append h.bytes rfl).1
  rw [memRead_cons, memRead_cons] at hbody
  obtain ⟨haddr, hctrl, hpayload⟩ : _ ∧ _ ∧ _ := by simpa only [List.cons.injEq] using hbody
  refine ⟨haddr, hctrl, ?_⟩
  have hlen : s.dec.stored - 2 - s.eff.crcLen.toNat = p.length := by
    rw [h.stored, h.crcLen]
    simp only [List.length_cons]
    omega
  rw [State.rxPayload, hlen]
  exact hpayload

end State.RxHolds

/-! ### A received frame leaves the decoder alone -/

section

variable (s : State)

theorem onFrame_dec {k : State → State} (hk : ∀ t, (k t).dec = t.dec) : (onFrame k s).dec = s.dec := by
  unfold onFrame
  split
  · rfl
  · exact hk _

theorem noPayload_dec {k : State → State} (hk : ∀ t, (k t).dec = t.dec) : (noPayload k s).dec = s.dec := by
  unfold noPayload
  split
  · exact hk s
  · exact frmrTrigger_dec s

theorem whenConnected_dec {k : State → State} (hk : ∀ t, (k t).dec = t.dec) : (whenConnected k s).dec = s.dec := by
  unfold whenConnected
  split
  · exact hk s
  · rfl

@[simp] theorem processNR_dec (nr : Seq) : (processNR nr s).1.dec = s.dec := by rw [processNR_eq]

theorem receiveI_dec (ns : Seq) (pf : Bool) (nr : Seq) : (receiveI ns pf nr s).dec = s.dec := by
  unfold receiveI receiveInSeq
  split
  · dsimp only
    split <;> simp
  · exact receiveOutOfSeq_dec s

theorem receiveREJ_dec (pf : Bool) (nr : Seq) : (receiveREJ pf nr s).dec = s.dec := by
  unfold receiveREJ
  dsimp only
  split <;> simp

theorem rxSABM_dec : (rxSABM s).dec = s.dec := by
  unfold rxSABM
  split <;> simp

theorem rxUA_dec : (rxUA s).dec = s.dec := by
  unfold rxUA
  split <;> simp

theorem rxDISC_dec : (rxDISC s).dec = s.dec := by
  unfold rxDISC
  split <;> simp

/-- Whatever the frame is, its receipt leaves the decoder and RxBuf alone. -/
theorem receive_dec (i : Instr) : (receive i s).dec = s.dec := by
  cases i
  case iFrame ns pf nr => exact onFrame_dec s (fun t => whenConnected_dec t (fun u => receiveI_dec u ns pf nr))
  case rr pf nr =>
    exact onFrame_dec s (fun t => noPayload_dec t (fun u => whenConnected_dec u (fun v => by simp [receiveRR])))
  case rej pf nr =>
    exact onFrame_dec s (fun t => noPayload_dec t (fun u => whenConnected_dec u (fun v => receiveREJ_dec v pf nr)))
  case rnr pf nr =>
    exact onFrame_dec s (fun t => noPayload_dec t (fun u => whenConnected_dec u (fun v => by simp [receiveRNR])))
  case sReserved => exact onFrame_dec s frmrTrigger_dec
  case sabm => exact onFrame_dec s (fun t => noPayload_dec t rxSABM_dec)
  case ua => exact onFrame_dec s (fun t => noPayload_dec t rxUA_dec)
  case disc => exact onFrame_dec s (fun t => noPayload_dec t rxDISC_dec)
  case frmr => exact onFrame_dec s (fun _ => rfl)
  case uReserved => exact onFrame_dec s frmrTrigger_dec
  all_goals rfl

theorem processFrame_dec : (processFrame s).dec = s.dec := by
  unfold processFrame
  split
  · exact receive_dec s _
  · rfl

end

/-! ### Runs of bytes -/

theorem decodeBytes_append (xs ys : List Byte) (s : State) :
    decodeBytes (xs ++ ys) s = decodeBytes ys (decodeBytes xs s) := List.foldl_append

/-- An escaped byte is no flag, so the decoder stores it. -/
theorem escaped_ne_flag {b : Byte} (h : mustEscape b = true) : b ^^^ Config.escMask ≠ Config.flag := by
  rcases of_decide_eq_true h with rfl | rfl <;> decide

/-- The decoder undoes the stuffing of a byte: where there is room, the byte is stored (R231, R238). -/
theorem decodeBytes_stuffByte {s : State} (hreading : s.dec.state = .reading) (hroom : s.dec.stored ≠ s.rxCapacity) (b : Byte) :
    decodeBytes (stuffByte b) s = s.modDec (Decoder.push b) := by
  unfold stuffByte
  split
  · next hesc =>
    have hback : (s.modDec (fun d => { d with state := .escape })).modDec (fun d => { d with state := .reading }) = s := by
      simp only [State.modDec, ← hreading]
    calc decodeBytes [Config.esc, b ^^^ Config.escMask] s
        = decodeByte (b ^^^ Config.escMask) (decodeByte Config.esc s) := rfl
      _ = storeByte (b ^^^ Config.escMask ^^^ Config.escMask) s := by
          rw [decodeByte_reading_esc hreading, decodeByte_escape_other rfl (escaped_ne_flag hesc), hback]
      _ = s.modDec (Decoder.push b) := by
          rw [BitVec.xor_assoc, BitVec.xor_self, BitVec.xor_zero, storeByte_room b hroom]
  · next hplain =>
    have hne : b ≠ Config.flag ∧ b ≠ Config.esc := by simpa [mustEscape] using hplain
    exact (decodeByte_reading_other hreading hne.1 hne.2).trans (storeByte_room b hroom)

/-- A decoder in READING that has stored `n` bytes, with the storage `m`. -/
def Decoder.holding (n : Nat) (m : Memory) : Decoder := ⟨.reading, BitVec.ofNat 16 n, decide (65536 ≤ n), m⟩

theorem Decoder.holding_stored {n : Nat} (m : Memory) (h : n < 131072) : (Decoder.holding n m).stored = n := wide_ofNat h

theorem Decoder.push_holding {n : Nat} (m : Memory) (h : n < 131072) (b : Byte) :
    (Decoder.holding n m).push b = Decoder.holding (n + 1) (m.write n b) := by
  simp only [Decoder.push, Decoder.holding_stored m h]
  simp [Decoder.holding, BitVec.ofNat_add]

/-- A stuffed list that fits is stored as it was before stuffing. -/
theorem decodeBytes_stuff (s : State) (x : List Byte) {n : Nat} (m : Memory) (hfits : n + x.length ≤ s.rxCapacity) :
    decodeBytes (stuff x) { s with dec := Decoder.holding n m } =
      { s with dec := Decoder.holding (n + x.length) (memWrite m n x) } := by
  have hcap := s.rxCapacity_lt
  induction x generalizing n m with
  | nil => rfl
  | cons b x ih =>
    rw [List.length_cons] at hfits
    have hroom : (Decoder.holding n m).stored ≠ s.rxCapacity := by
      rw [Decoder.holding_stored m (by omega)]
      omega
    have hbyte : decodeBytes (stuffByte b) { s with dec := Decoder.holding n m } =
        { s with dec := Decoder.holding (n + 1) (m.write n b) } := by
      rw [decodeBytes_stuffByte rfl hroom, ← Decoder.push_holding m (by omega) b]
      rfl
    rw [stuff, List.flatMap_cons, decodeBytes_append, hbyte]
    rw [show n + (b :: x).length = n + 1 + x.length by rw [List.length_cons]; omega]
    exact ih _ (by omega)

/-- A flag opens a frame where none is in progress (R238). -/
theorem decodeByte_opens {s : State} (h : s.dec.state = .hunt ∨ (s.dec.state = .reading ∧ s.dec.stored = 0)) :
    decodeByte Config.flag s = { s with dec := Decoder.holding 0 s.dec.buf } := by
  rcases h with hhunt | ⟨hreading, hnone⟩
  · exact decodeByte_hunt_flag hhunt
  · rw [decodeByte_reading_flag hreading, endOfFrame_short (by omega)]
    simp only [State.modDec, Decoder.clear, hreading]
    rfl

/-- The state in which a decoder has just read the frame `x`. -/
def State.rxLoaded (s : State) (x : List Byte) : State :=
  { s with dec := Decoder.holding x.length (memWrite s.dec.buf 0 x) }

/-- A frame that fits is read as it was sent. -/
theorem State.rxLoaded_holds {s : State} {a c : Byte} {p x : List Byte}
    (hx : x = a :: c :: p ++ crcBytes s.crcKind (a :: c :: p)) (hcrc : s.eff.crcLen.toNat = s.crcKind.len)
    (hfits : x.length ≤ s.rxCapacity) : (s.rxLoaded x).RxHolds a c p := by
  have hcap := s.rxCapacity_lt
  have hlen : x.length = (a :: c :: p).length + s.crcKind.len := by rw [hx, List.length_append, crcBytes_length]
  refine ⟨hcrc, (Decoder.holding_stored _ (by omega)).trans hlen, ?_⟩
  exact hx ▸ hlen ▸ memRead_memWrite x s.dec.buf .rx 0

/-- Feeding a stuffed good frame between flags runs ProcessFrame once, on the frame (R247). -/
theorem decodeBytes_frame {s : State} {a c : Byte} {p x : List Byte}
    (hidle : s.dec.state = .hunt ∨ (s.dec.state = .reading ∧ s.dec.stored = 0)) (hfits : x.length ≤ s.rxCapacity)
    (hholds : (s.rxLoaded x).RxHolds a c p) :
    decodeBytes ([Config.flag] ++ stuff x ++ [Config.flag]) s = (processFrame (s.rxLoaded x)).modDec Decoder.clear := by
  have hbody : decodeBytes (stuff x) { s with dec := Decoder.holding 0 s.dec.buf } = s.rxLoaded x := by
    have := decodeBytes_stuff s x s.dec.buf (n := 0) (by omega)
    rwa [Nat.zero_add] at this
  calc decodeBytes ([Config.flag] ++ stuff x ++ [Config.flag]) s
      = decodeByte Config.flag (decodeBytes (stuff x) (decodeByte Config.flag s)) := by
        rw [decodeBytes_append, decodeBytes_append]
        rfl
    _ = decodeByte Config.flag (s.rxLoaded x) := by rw [decodeByte_opens hidle, hbody]
    _ = (processFrame (s.rxLoaded x)).modDec Decoder.clear := decodeByte_goodFrame rfl hholds.rxLongEnough hholds.rxCrcGood

/-- Settles O29: `decodeBytes_frame` on the frame that `State.rxLoaded_holds` puts in RxBuf; ProcessFrame leaves the decoder
alone. -/
theorem decoderRoundTrip : Obligations.DecoderRoundTrip := by
  intro s body hidle hcrc x hbody hfits s1
  obtain ⟨a, c, p, rfl⟩ : ∃ a c p, body = a :: c :: p := by
    match body, hbody with
    | a :: c :: p, _ => exact ⟨a, c, p, rfl⟩
  have hholds : s1.RxHolds a c p := State.rxLoaded_holds rfl hcrc hfits
  refine ⟨?_, memRead_memWrite x _ _ 0, hholds.fields.2.2⟩
  have hdec : (processFrame s1).dec = s1.dec := processFrame_dec s1
  refine (decodeBytes_frame hidle hfits hholds).trans ?_
  rw [← hdec]
  rfl

end Sys2Proof.Machine

/-! ## The frame that SelectFrame leaves in TxBuf (R274, R308) -/

namespace Sys2Proof.Machine

theorem interior_length (k : CrcKind) (c : Byte) (p : List Byte) : (interior k c p).length = p.length + 2 + k.len := by
  rw [interior, List.length_append, crcBytes_length]
  rfl

/-- BuildFrame stages the frame's interior (R274). -/
theorem buildFrame_enc_eq (c : Byte) (p : List Byte) (s : State) :
    (buildFrame c p s).enc = s.enc.stage (interior s.crcKind c p) := rfl

/-- A frame of a payload that a slot can hold has at least its header (R104, R230). -/
theorem buildFrame_two_le (c : Byte) {p : List Byte} (s : State) (hp : p.length < 65536) :
    2 ≤ (buildFrame c p s).enc.txfBytes := by
  have hcrc := s.crcKind.len_le
  have hlen := interior_length s.crcKind c p
  rw [buildFrame_enc_eq, Encoder.stage_txfBytes _ _ (by omega)]
  omega

section

variable {s t : State}

theorem selectU_two_le (h : selectU s = some t) : 2 ≤ t.enc.txfBytes := by
  unfold selectU at h
  split_ifs at h <;> cases h
  all_goals exact buildFrame_two_le _ _ (by decide)

theorem selectAck_two_le (h : selectAck s = some t) : 2 ≤ t.enc.txfBytes := by
  unfold selectAck at h
  split_ifs at h <;> cases h
  all_goals exact buildFrame_two_le _ _ (by decide)

theorem sendSlot_two_le (i : Nat) (s : State) : 2 ≤ (sendSlot i s).enc.txfBytes := by
  apply buildFrame_two_le
  rw [State.slotPayload, memRead_length]
  exact BitVec.isLt _

theorem selectNew_two_le (h : selectNew s = some t) : 2 ≤ t.enc.txfBytes := by
  unfold selectNew at h
  split at h
  · cases h
  split at h
  · cases h
  split at h
  · cases h
  · cases h
    exact sendSlot_two_le _ _

theorem selectRetx_two_le (h : selectRetx s = some t) : 2 ≤ t.enc.txfBytes := by
  unfold selectRetx at h
  split at h
  · cases h
  split at h
  · cases h
  · cases h
    exact sendSlot_two_le _ _

theorem selectKeepAlive_two_le (h : selectKeepAlive s = some t) : 2 ≤ t.enc.txfBytes := by
  unfold selectKeepAlive at h
  split_ifs at h
  cases h
  exact buildFrame_two_le _ _ (by decide)

theorem selectByPriority_two_le (h : selectByPriority s = some t) : 2 ≤ t.enc.txfBytes := by
  unfold selectByPriority at h
  split at h
  · next u hu => cases h; exact selectU_two_le (t := u) hu
  split_ifs at h
  split at h
  · next u hu => cases h; exact selectAck_two_le (t := u) hu
  split at h
  · next u hu => cases h; exact selectNew_two_le (t := u) hu
  split at h
  · next u hu => cases h; exact selectRetx_two_le (t := u) hu
  · obtain ⟨u, hu, rfl⟩ := Option.map_eq_some_iff.mp h
    exact selectKeepAlive_two_le (t := u) hu

/-- A selected frame has at least two bytes (R233). -/
theorem selectFrame_two_le (h : selectFrame s = (t, true)) : 2 ≤ t.enc.txfBytes := by
  unfold selectFrame at h
  split at h
  · next hu => cases h; exact selectByPriority_two_le hu
  · cases h

end

end Sys2Proof.Machine

/-! ## The framer encoder, frame by frame (R232–R235) -/

namespace Sys2Proof.Machine

/-! ### Runs of EncodeStep -/

/-- As many calls of EncodeStep as there are bytes give these bytes, and lead from `s` to `t`. -/
def Emits (s : State) (bytes : List Byte) (t : State) : Prop := encodeSteps bytes.length s = (t, bytes)

section

variable {s t u : State} {b : Byte} {xs ys : List Byte}

theorem Emits.nil (s : State) : Emits s [] s := rfl

theorem Emits.cons (h : encodeStep s = (t, some b)) (ht : Emits t ys u) : Emits s (b :: ys) u := by
  unfold Emits at ht ⊢
  rw [List.length_cons, encodeSteps, h]
  dsimp only
  rw [ht]
  rfl

theorem Emits.one (h : encodeStep s = (t, some b)) : Emits s [b] t := .cons h (.nil t)

theorem encodeSteps_add (n k : Nat) (s : State) :
    encodeSteps (n + k) s =
      ((encodeSteps k (encodeSteps n s).1).1, (encodeSteps n s).2 ++ (encodeSteps k (encodeSteps n s).1).2) := by
  induction n generalizing s with
  | zero => simp [encodeSteps]
  | succ n ih => rw [Nat.succ_add, encodeSteps, encodeSteps, ih, List.append_assoc]

theorem Emits.append (hs : Emits s xs t) (ht : Emits t ys u) : Emits s (xs ++ ys) u := by
  unfold Emits at hs ht ⊢
  rw [List.length_append, encodeSteps_add, hs, ht]

/-- A run reads its start only in its first call. -/
theorem Emits.of_encodeStep_eq (ht : Emits t xs u) (hne : xs ≠ []) (h : encodeStep s = encodeStep t) : Emits s xs u := by
  obtain ⟨b, ys, rfl⟩ := List.exists_cons_of_ne_nil hne
  unfold Emits at ht ⊢
  rw [← ht, List.length_cons, encodeSteps, encodeSteps, h]

end

/-! ### One call of EncodeStep in each phase -/

section

variable {s : State}

theorem encodeStep_busy (h : s.enc.phase ≠ .idle) : encodeStep s = emitByte s := if_neg h

/-- From IDLE, a selected frame is begun, and its first byte is emitted at once (R233). -/
theorem encodeStep_selected {u : State} (hidle : s.enc.phase = .idle) (h : selectFrame s = (u, true)) :
    encodeStep s = encodeStep (startFrame u) := by
  have hbusy : (startFrame u).enc.phase ≠ .idle := by
    simp only [startFrame, State.modEnc_enc]
    split <;> simp
  rw [encodeStep_busy hbusy, encodeStep, if_pos hidle, h]
  rfl

theorem encodeStep_openFlag (h : s.enc.phase = .openFlag) :
    encodeStep s = (s.modEnc (fun e => { e with phase := .body, lastFlag := false }), some Config.flag) := by
  rw [encodeStep_busy (by simp [h])]
  simp only [emitByte, h]

theorem encodeStep_closeFlag (h : s.enc.phase = .closeFlag) :
    encodeStep s = ((frameDone s).modEnc (fun e => { e with phase := .idle, lastFlag := true }), some Config.flag) := by
  rw [encodeStep_busy (by simp [h])]
  simp only [emitByte, h]

theorem encodeStep_body_plain (h : s.enc.phase = .body) (hb : mustEscape s.txByte = false) :
    encodeStep s = (txAdvance (s.modEnc (fun e => { e with lastFlag := false })), some s.txByte) := by
  rw [encodeStep_busy (by simp [h])]
  simp [emitByte, h, hb]

theorem encodeStep_body_escaped (h : s.enc.phase = .body) (hb : mustEscape s.txByte = true) :
    encodeStep s = (s.modEnc (fun e => { e with phase := .esc, lastFlag := false }), some Config.esc) := by
  rw [encodeStep_busy (by simp [h])]
  simp only [emitByte, h, hb, if_true]
  rfl

theorem encodeStep_esc (h : s.enc.phase = .esc) :
    encodeStep s = (txAdvance s, some (s.txByte ^^^ Config.escMask)) := by
  rw [encodeStep_busy (by simp [h])]
  simp only [emitByte, h]

end

/-! ### The body of a frame -/

/-- The encoder after a byte of the body is out: the next byte, or the closing flag, is next (R233). -/
def State.bodyAdvanced (s : State) : State :=
  s.modEnc (fun e =>
    { e.advance with phase := if e.txfNext + 1 = e.txfBytes then .closeFlag else .body, lastFlag := false })

/-- The encoder with the whole body out: the closing flag is next. -/
def State.bodyDone (s : State) : State :=
  s.modEnc (fun e => { e with phase := .closeFlag, lastFlag := false, txfPos := e.txfLen, txfPosOver := e.txfLenOver })

section

variable {s : State}

/-- A byte of TxBuf goes out stuffed (R231, R233). -/
theorem emits_stuffByte (h : s.enc.phase = .body) : Emits s (stuffByte s.txByte) s.bodyAdvanced := by
  unfold stuffByte
  split
  · next hesc => exact .cons (encodeStep_body_escaped h hesc) (.one (encodeStep_esc rfl))
  · next hplain => exact .one (encodeStep_body_plain h (Bool.eq_false_iff.mpr hplain))

theorem State.bodyAdvanced_phase (h : s.enc.txfNext + 1 < s.enc.txfBytes) : s.bodyAdvanced.enc.phase = .body :=
  if_neg h.ne

theorem State.bodyAdvanced_txfNext (h : s.enc.txfNext + 1 ≤ s.enc.txfBytes) :
    s.bodyAdvanced.enc.txfNext = s.enc.txfNext + 1 :=
  s.enc.advance_txfNext (h.trans_lt (wide_lt _ _))

/-- With the last byte out the index stands at the frame's end. -/
theorem State.bodyAdvanced_last (h : s.enc.txfNext + 1 = s.enc.txfBytes) : s.bodyAdvanced = s.bodyDone := by
  obtain ⟨hpos, hover⟩ := s.enc.advance.pos_eq_len ((State.bodyAdvanced_txfNext h.le).trans h)
  simp only [Encoder.advance] at hpos hover
  simp only [State.bodyAdvanced, State.bodyDone, State.modEnc, Encoder.advance, if_pos h, hpos, hover]

/-- The rest of the frame goes out stuffed, and then the closing flag is next (R232, R233). -/
theorem emits_body (k : Nat) (hbody : s.enc.phase = .body) (hk : s.enc.txfNext + (k + 1) = s.enc.txfBytes) :
    Emits s (stuff (memRead s.enc.buf .tx s.enc.txfNext (k + 1))) s.bodyDone := by
  induction k generalizing s with
  | zero =>
    rw [← State.bodyAdvanced_last hk, show stuff _ = stuffByte s.txByte from List.append_nil _]
    exact emits_stuffByte hbody
  | succ k ih =>
    have hnext := State.bodyAdvanced_txfNext (s := s) (by omega)
    have hleft : s.bodyAdvanced.enc.txfNext + (k + 1) = s.bodyAdvanced.enc.txfBytes :=
      calc s.bodyAdvanced.enc.txfNext + (k + 1) = s.enc.txfNext + (k + 1 + 1) := by rw [hnext]; omega
        _ = s.bodyAdvanced.enc.txfBytes := hk
    have hrest := ih (State.bodyAdvanced_phase (by omega)) hleft
    rw [hnext] at hrest
    rw [memRead_cons, stuff, List.flatMap_cons]
    exact (emits_stuffByte hbody).append hrest

end

/-! ### The end of a frame -/

/-- The slot whose frame is out (R235): one that is still IN_FLIGHT awaits its acknowledgement. -/
def Slot.emitted (x : Slot) : Slot := if x.state = .inFlight then { x with state := .awaitingAck } else x

/-- A change of a slot reads only the slot. -/
theorem State.modSlot_congr {s : State} {i : Nat} {f g : Slot → Slot} (h : f (s.slot i) = g (s.slot i)) :
    s.modSlot i f = s.modSlot i g := by
  have hmodify : s.ring.slots.modify i f = s.ring.slots.modify i g := by
    apply List.ext_getElem?
    intro j
    rw [List.getElem?_modify, List.getElem?_modify]
    split_ifs with hj
    · subst hj
      cases hx : s.ring.slots[i]? with
      | none => rfl
      | some x => simpa [State.slot, hx] using h
    · rfl
  simp only [State.modSlot, State.modRing, hmodify]

theorem State.modSlot_id (s : State) (i : Nat) : s.modSlot i id = s := by
  simp only [State.modSlot, State.modRing, List.modify_id]

theorem frameDone_tagged {s : State} (h : s.enc.txfSlotValid = true) :
    frameDone s = (s.modSlot s.enc.txfSlot.toNat Slot.emitted).modEnc (fun e => { e with txfSlotValid := false }) := by
  simp only [frameDone, h, if_true]
  congr 1
  split
  · next hsent => exact State.modSlot_congr (if_pos hsent).symm
  · next hmoved => exact (s.modSlot_id _).symm.trans (State.modSlot_congr (if_neg hmoved).symm)

theorem frameDone_untagged {s : State} (h : s.enc.txfSlotValid = false) : frameDone s = s := by
  simp [frameDone, h]

/-- The closing flag of a frame: what is left of the selection `u` when it is out (R233, R235). -/
theorem frameDone_bodyDone (u : State) :
    (frameDone u.bodyDone).modEnc (fun e => { e with phase := .idle, lastFlag := true }) =
      { u with
          enc := { u.enc with phase := .idle, lastFlag := true, txfPos := u.enc.txfLen, txfPosOver := u.enc.txfLenOver,
                              txfSlotValid := false }
          ring := { u.ring with slots :=
            if u.enc.txfSlotValid = true then u.ring.slots.modify u.enc.txfSlot.toNat Slot.emitted
            else u.ring.slots } } := by
  cases htag : u.enc.txfSlotValid with
  | true =>
    rw [frameDone_tagged (s := u.bodyDone) htag]
    rfl
  | false =>
    rw [frameDone_untagged (s := u.bodyDone) htag]
    simp [State.bodyDone, State.modEnc, htag]

/-- From a start in the body, the frame in TxBuf goes out stuffed. -/
theorem emits_wholeBody {s : State} (hbody : s.enc.phase = .body) (hstart : s.enc.txfNext = 0) (hlen : 2 ≤ s.enc.txfBytes) :
    Emits s (stuff (s.txFrame s.enc.txfBytes)) s.bodyDone := by
  obtain ⟨k, hk⟩ : ∃ k, s.enc.txfBytes = k + 1 := ⟨s.enc.txfBytes - 1, by omega⟩
  have hrun := emits_body k hbody (by omega)
  rwa [hstart, ← hk] at hrun

/-- The wire bytes of the frame in TxBuf: no opening flag where flags are shared (R232, R234). -/
def State.wireBytes (u : State) : List Byte :=
  (if u.enc.lastFlag = true then [] else [Config.flag]) ++ stuff (u.txFrame u.enc.txfBytes) ++ [Config.flag]

theorem emits_wireBytes {u : State} (hlen : 2 ≤ u.enc.txfBytes) :
    Emits (startFrame u) u.wireBytes
      ((frameDone u.bodyDone).modEnc (fun e => { e with phase := .idle, lastFlag := true })) := by
  refine Emits.append ?_ (.one (encodeStep_closeFlag rfl))
  cases hshared : u.enc.lastFlag with
  | true =>
    have hbody : (startFrame u).enc.phase = .body := by simp [startFrame, hshared]
    exact emits_wholeBody hbody rfl hlen
  | false =>
    have hopen : (startFrame u).enc.phase = .openFlag := by simp [startFrame, hshared]
    exact (Emits.one (encodeStep_openFlag hopen)).append (emits_wholeBody rfl rfl hlen)

/-- From IDLE, the frame selected goes out whole (R233). -/
theorem emits_selected {s u : State} (hidle : s.enc.phase = .idle) (hsel : selectFrame s = (u, true)) :
    Emits s u.wireBytes ((frameDone u.bodyDone).modEnc (fun e => { e with phase := .idle, lastFlag := true })) :=
  (emits_wireBytes (selectFrame_two_le hsel)).of_encodeStep_eq (by simp [State.wireBytes]) (encodeStep_selected hidle hsel)

/-- Settles O28: the run by `emits_selected`, and what its last call leaves by `frameDone_bodyDone`. -/
theorem encoderEmitsFrame : Obligations.EncoderEmitsFrame := by
  intro s u hidle hsel bytes
  have hrun := emits_selected hidle hsel
  rw [frameDone_bodyDone] at hrun
  exact hrun

end Sys2Proof.Machine

/-! ## From one block to another (R247, R360) -/

namespace Sys2Proof.Machine

/-- Settles O30: `emits_selected` gives the wire bytes, `decodeBytes_frame` what they are at the other block, and
`exec_decodeCtrl` that this is the meaning of the control octet. -/
theorem linkCarriesFrames : Obligations.LinkCarriesFrames := by
  intro a u r c p hidle hsel ⟨hbytes, hread⟩ hflag hhunt hkind hcrc hfits x r1
  have hwire : u.wireBytes = [Config.flag] ++ stuff x ++ [Config.flag] := by
    rw [State.wireBytes, State.txFrame, hbytes, hread, hflag]
    rfl
  have hsent : (encodeSteps ((stuff x).length + 2) a).2 = [Config.flag] ++ stuff x ++ [Config.flag] := by
    have hrun := emits_selected hidle hsel
    have hlen : u.wireBytes.length = (stuff x).length + 2 := by simp [hwire]
    rw [Emits, hlen] at hrun
    rw [hrun, hwire]
  have hholds : (r.rxLoaded x).RxHolds Config.addr c p :=
    State.rxLoaded_holds (congrArg (interior · c p) hkind.symm) hcrc hfits
  obtain ⟨haddr, hctrl, hpayload⟩ := hholds.fields
  refine ⟨hpayload, receive (decodeCtrl c) r1, exec_decodeCtrl c r1, ?_⟩
  rw [hsent, decodeBytes_frame (.inl hhunt) hfits hholds, processFrame_ours haddr, hctrl]
  rfl

end Sys2Proof.Machine

/-! ## Classify by the bits of the octet (R271) -/

namespace Sys2Proof

theorem bits_of_lowBits {b : Byte} {low : BitVec 2} (h : b.extractLsb' 0 2 = low) : b[0] = low[0] ∧ b[1] = low[1] := by
  subst h
  simp [BitVec.getLsbD_eq_getElem]

/-- An octet whose low bits are 01 is an S octet (R142). -/
theorem eq_ctrlS_of_lowBits {c : Byte} (h : c.extractLsb' 0 2 = 0b01#2) : ∃ ty pf nr, c = ctrlS ty pf nr := by
  obtain ⟨h0, h1⟩ := bits_of_lowBits h
  obtain ⟨ns, pf, nr, rfl⟩ | hS | ⟨kind, rfl⟩ := octet_cases c
  · simp at h0
  · exact hS
  · simp at h1

/-- An octet whose low bits are 11 is a U octet (R143). -/
theorem eq_ctrlU_of_lowBits {c : Byte} (h : c.extractLsb' 0 2 = 0b11#2) : ∃ kind, c = ctrlU kind := by
  obtain ⟨h0, h1⟩ := bits_of_lowBits h
  obtain ⟨ns, pf, nr, rfl⟩ | ⟨ty, pf, nr, rfl⟩ | hU := octet_cases c
  · simp at h0
  · simp at h1
  · exact hU

theorem decodeCtrl_of_bit0_clear {c : Byte} (h : c.getLsbD 0 = false) :
    decodeCtrl c = .iFrame (c.extractLsb' 1 3) (c.getLsbD 4) (c.extractLsb' 5 3) := if_pos h

/-- `decodeCtrl_ctrlS`, in the fields of the octet. -/
theorem decodeCtrl_of_lowBits_01 {c : Byte} (h : c.extractLsb' 0 2 = 0b01#2) :
    decodeCtrl c =
      if c.extractLsb' 2 2 = 0b00#2 then .rr (c.getLsbD 4) (c.extractLsb' 5 3)
      else if c.extractLsb' 2 2 = 0b01#2 then .rej (c.getLsbD 4) (c.extractLsb' 5 3)
      else if c.extractLsb' 2 2 = 0b10#2 then .rnr (c.getLsbD 4) (c.extractLsb' 5 3)
      else .sReserved (c.getLsbD 4) (c.extractLsb' 5 3) := by
  obtain ⟨ty, pf, nr, rfl⟩ := eq_ctrlS_of_lowBits h
  rw [decodeCtrl_ctrlS, ctrlS_type, ctrlS_nr, BitVec.getLsbD_eq_getElem (by decide), ctrlS_pf]
  rfl

/-- `decodeCtrl_ctrlU`, in the fields of the octet. -/
theorem decodeCtrl_of_lowBits_11 {c : Byte} (h : c.extractLsb' 0 2 = 0b11#2) (hsabm : c ≠ 0x2F) (hua : c ≠ 0x63)
    (hdisc : c ≠ 0x43) (hfrmr : c ≠ 0x87) : decodeCtrl c = .uReserved (c.extractLsb' 2 6) := by
  obtain ⟨kind, rfl⟩ := eq_ctrlU_of_lowBits h
  have hkind : kind ∉ assignedU := by
    rw [mem_assignedU]
    rintro (h | h | h | h) <;> contradiction
  rw [decodeCtrl_ctrlU hkind, ctrlU_kind]

end Sys2Proof

namespace Sys2Proof.Machine

/-- Settles O4: bit 0 chooses I, low bits 01 an S type by bits 3:2, and low bits 11 a U octet, which is one of the four words or
unknown. -/
theorem classifyByBits : Obligations.ClassifyByBits := by
  intro c
  refine ⟨decodeCtrl_of_bit0_clear, fun hlow => ?_, ?_, ?_, ?_, ?_, decodeCtrl_of_lowBits_11⟩
  · rw [decodeCtrl_of_lowBits_01 hlow]
    refine ⟨?_, ?_, ?_, ?_⟩ <;> intro hty <;> rw [hty] <;> rfl
  all_goals
    rintro rfl
    rfl

end Sys2Proof.Machine

/-! ## The window through every step (R304) -/

namespace Sys2Proof.Machine

/-- With its two ends at one number, nothing of the window is outstanding. -/
theorem State.outstanding_of_eq {s : State} (h : s.win.nextNs = s.win.confirmNs) : s.outstanding = 0 := by
  simp [State.outstanding, h]

theorem windowInv_of_eq {s : State} (h : s.win.nextNs = s.win.confirmNs) : WindowInv s :=
  (State.outstanding_of_eq h).le.trans (Nat.zero_le _)

/-- The window invariant depends on `next_ns`, `confirm_ns` and W alone. -/
theorem WindowInv.congr {s t : State} (h : WindowInv s) (hn : t.win.nextNs = s.win.nextNs)
    (hc : t.win.confirmNs = s.win.confirmNs) (hw : t.eff.window = s.eff.window) : WindowInv t := by
  rw [WindowInv, State.outstanding, State.w, hn, hc, hw]; exact h

/-- The number of outstanding frames after one more is sent in an open window. -/
theorem State.outstanding_sent (s : State) (h : s.outstanding < s.w) :
    (s.win.nextNs + 1 - s.win.confirmNs).toNat = s.outstanding + 1 :=
  outstanding_next s.win.nextNs s.win.confirmNs (by have := s.w_lt; unfold State.outstanding at h; omega)

/-- A frame is added only to an open window (R311), a valid N(R) takes outstanding frames away (R321), and all else that moves
either end of the window closes it. -/
theorem windowInv_kept : Kept WindowInv where
  block _ _ hb h := h.congr (by rw [hb.win]) (by rw [hb.win]) (by rw [hb.eff])
  flags _ _ h := h
  times _ _ h := h
  counters _ _ _ h := h
  moves _ _ _ _ _ h := h
  fails _ _ h := h
  window s _ hf h := h.congr (hf s.win).1 (hf s.win).2 rfl
  tag _ _ _ h := h
  builds _ _ _ _ h := h
  starts _ _ _ _ h := h
  sendsNew s _ _ _ hopen _ := (s.outstanding_sent hopen).trans_le hopen
  resends _ _ _ _ h := h
  polls _ _ _ h := h
  encodes _ _ _ _ h := h
  awaits _ _ _ h := h
  frees _ _ _ h := h.congr (by simp [deliverHead]) (by simp [deliverHead]) (by simp [deliverHead])
  credits _ h := h
  connects _ _ _ := windowInv_of_eq rfl
  reconnects _ _ _ := windowInv_of_eq rfl
  acks s _ hpos h := by
    have hw : (ackOne s).w = s.w := by rw [State.w, ackOne_eff]; rfl
    rw [WindowInv, ackOne_outstanding s hpos, hw]
    exact (Nat.sub_le _ _).trans h
  rewinds s _ _ := windowInv_of_eq rfl
  decState _ _ h := h
  decClear _ h := h
  stores _ _ _ h := h
  writes _ _ h := h
  kaTimeout _ _ _ h := h
  closes _ _ h := h
  inits _ _ _ _ := windowInv_of_eq rfl
  enqueues _ _ _ _ h := h
  ends _ _ := windowInv_of_eq rfl
  resets s _ := windowInv_of_eq rfl

/-- Settles O54, part by part of a step, as `Kept` lists them. -/
theorem windowKept : Obligations.WindowKept := fun _ _ h hstep => windowInv_kept.step h hstep

end Sys2Proof.Machine

/-! ## The ring through every step (R300, R303) -/

namespace Sys2Proof.Machine

section

variable {s t : State}

/-- The sent slots, in ring order, carry the numbers from `confirm_ns` to `next_ns` − 1 (R303). -/
def Numbered (s : State) : Prop :=
  (s.ringSlots.filter Slot.isSent).map Slot.seq = (List.range s.outstanding).map (fun j => s.win.confirmNs + BitVec.ofNat 3 j)

/-- The sent slots are as many as the outstanding numbers. -/
theorem Numbered.length (h : Numbered s) : (s.ringSlots.filter Slot.isSent).length = s.outstanding := by
  simpa using congrArg List.length h

theorem numbered_of_none (hsent : ∀ x ∈ s.ringSlots, x.isSent = false) (h : s.win.nextNs = s.win.confirmNs) : Numbered s := by
  rw [Numbered, State.outstanding_of_eq h, List.filter_eq_nil_iff.mpr (fun x hx => by simp [hsent x hx])]
  rfl

/-- The occupied slots depend on the ring and W alone. -/
theorem State.ringSlots_congr (hr : t.ring = s.ring) (hw : t.eff.window = s.eff.window) : t.ringSlots = s.ringSlots := by
  have hslot : t.slot = s.slot := by funext i; rw [State.slot, State.slot, hr]
  rw [State.ringSlots, State.ringSlots, hslot, State.ringOrder_congr s t (by rw [hr]) (by rw [hr]) hw]

/-- The invariant where the ring and W are as before, from the numbering. -/
theorem RingInv.of_numbered (h : RingInv s) (hr : t.ring = s.ring) (hw : t.eff.window = s.eff.window)
    (hf : t.fsm = .uninit ↔ s.fsm = .uninit) (hnum : t.fsm = .connected → Numbered t) : RingInv t := by
  have hslots := State.ringSlots_congr hr hw
  refine RingInv.of_lists s t h (hr ▸ h.seven) (by rw [hr]) (by rw [hr]) hw hf (fun i hi => ?_) ?_ ?_ hnum
  · rwa [State.slot, hr]
  · rw [hslots]; exact h.occupied
  · rw [hslots]; exact h.ordered

/-- The invariant where nothing that it reads has changed. -/
theorem RingInv.congr (h : RingInv s) (hr : t.ring = s.ring) (hw : t.eff.window = s.eff.window) (hwin : t.win = s.win)
    (hf : t.fsm = s.fsm) : RingInv t :=
  RingInv.of_same_ring s t h hr hw (by rw [hwin]) (by rw [hwin]) (by rw [hf]) (fun hc => hf ▸ hc)

/-- The ring without its numbering: the same ring in CONNECTING. -/
theorem RingInv.unnumbered (h : RingInv s) (hu : s.fsm ≠ .uninit) : RingInv (s.setFsm .connecting) :=
  h.of_numbered rfl rfl (by simp [hu]) (fun hc => by simp at hc)

/-! ### Failing, connecting, going back -/

theorem Slot.isSent_reset : Slot.reset.isSent = false := rfl

/-- FailPending outside CONNECTED (R410). -/
theorem RingInv.failPending (h : RingInv s) (hc : s.fsm ≠ .connected) : RingInv (s.markSlots Slot.isPending .failed) := by
  refine RingInv.markSlots s _ _ h (fun _ => Slot.not_free_of_isPending) SlotState.noConfusion (fun x y hxy => ?_) hc
  rw [Slot.rank_failPending, Slot.rank_failPending]
  have := x.rank_le
  split_ifs <;> omega

/-- SABM in CONNECTED (R407): what is sent fails first, so that its numbers are gone when the connection is entered. -/
theorem RingInv.reconnect (h : RingInv s) (hc : s.fsm = .connected) :
    RingInv (enterConnected (resetSeq (Machine.failPending s))) := by
  have hfailed : RingInv (bumpFailGen ((s.setFsm .connecting).markSlots Slot.isPending .failed)) :=
    ((h.unnumbered (by simp [hc])).failPending (by simp)).of_numbered rfl rfl Iff.rfl (fun hx => by simp at hx)
  -- FSM is the one difference from the state of the statement, and EnterConnected sets it.
  have hconnected := RingInv.connect _ hfailed (by simp)
  exact hconnected

/-- Rewind (R322): nothing is sent any more, and no number is outstanding. -/
theorem RingInv.rewind (h : RingInv s) (hc : s.fsm = .connected) : RingInv (rewind s) := by
  have hmarked : RingInv ((s.setFsm .connecting).markSlots Slot.isSent .queued) := by
    refine RingInv.markSlots _ _ _ (h.unnumbered (by simp [hc])) (fun _ => Slot.not_free_of_isSent) SlotState.noConfusion
      (fun x y hxy => ?_) (by simp)
    rw [Slot.rank_rewound, Slot.rank_rewound]
    split_ifs <;> omega
  refine hmarked.of_numbered rfl rfl (by simp [hc]) (fun _ => numbered_of_none (fun x hx => ?_) rfl)
  have hslots : (Machine.rewind s).ringSlots = (s.markSlots Slot.isSent .queued).ringSlots := State.ringSlots_congr rfl rfl
  rw [hslots, s.ringSlots_markSlots _ _ Slot.isSent_reset] at hx
  obtain ⟨y, _, rfl⟩ := List.mem_map.mp hx
  split
  · rfl
  · next hy => exact Bool.eq_false_iff.mpr hy

/-! ### One slot moves on -/

/-- A slot of the ring is given another state, between the ranks of its neighbours. -/
theorem RingInv.moveSlot (h : RingInv s) (hc : s.fsm ≠ .connected) {i : Nat} {before after : List Nat}
    (hsplit : s.ringOrder = before ++ i :: after) {f : Slot → Slot} (hfree : (f (s.slot i)).state ≠ .free)
    (hb : ∀ j ∈ before, (s.slot j).rank ≤ (f (s.slot i)).rank) (ha : ∀ j ∈ after, (f (s.slot i)).rank ≤ (s.slot j).rank) :
    RingInv (s.modSlot i f) := by
  have hi : i ∈ s.ringOrder := by simp [hsplit]
  have hlen := h.lt hi
  obtain ⟨hold, hnew⟩ := s.ringSlots_modSlot i f hsplit h.nodup hlen
  have hocc := h.occupied
  have hord := h.ordered
  rw [hold] at hocc hord
  refine RingInv.of_lists s _ h (by simp [h.seven]) rfl rfl rfl Iff.rfl (fun j hj => ?_) ?_ ?_ (fun hx => absurd hx hc)
  · rw [s.slot_modSlot i j f hlen, if_neg]
    · exact hj
    · rintro rfl
      exact hocc _ (by simp) hj
  · rw [hnew]
    intro x hx
    rcases List.mem_append.mp hx with hx | hx
    · exact hocc x (by simp [hx])
    · rcases List.mem_cons.mp hx with rfl | hx
      · exact hfree
      · exact hocc x (by simp [hx])
  · rw [hnew]
    obtain ⟨hB, hA, _, _, hBA⟩ := ranks_split hord
    exact ranks_join hB hA (by simpa using hb) (by simpa using ha) hBA

/-- What stands before and after a slot of the ring has a rank on its side. -/
theorem RingInv.ranks (h : RingInv s) {i : Nat} {before after : List Nat} (hsplit : s.ringOrder = before ++ i :: after) :
    (∀ j ∈ before, (s.slot j).rank ≤ (s.slot i).rank) ∧ ∀ j ∈ after, (s.slot i).rank ≤ (s.slot j).rank := by
  have hord := h.ordered
  rw [State.ringSlots, hsplit, List.map_append, List.map_cons] at hord
  obtain ⟨_, _, hb, ha, _⟩ := ranks_split hord
  exact ⟨fun j hj => hb _ (List.mem_map_of_mem hj), fun j hj => ha _ (List.mem_map_of_mem hj)⟩

theorem filter_isSent_eq_nil {l : List Nat} (h : ∀ j ∈ l, (s.slot j).isSent = false) :
    (l.map s.slot).filter Slot.isSent = [] := by
  simp only [List.filter_eq_nil_iff, List.forall_mem_map]
  exact fun j hj => by simp [h j hj]

/-- Slot `i` goes in flight with the number `next_ns` (R311). -/
def State.sentNew (s : State) (i : Nat) : State :=
  (s.modWin (fun w => { w with nextNs := w.nextNs + 1 })).modSlot i (fun x =>
    { x with seq := s.win.nextNs, state := .inFlight, sentAt := s.now })

/-- A slot after which nothing is sent takes the next number. -/
theorem Numbered.sentNew (hnum : Numbered s) (h : RingInv s) {i : Nat} {before after : List Nat}
    (hsplit : s.ringOrder = before ++ i :: after) (hunsent : (s.slot i).isSent = false)
    (hafter : ∀ j ∈ after, (s.slot j).isSent = false) (hopen : s.outstanding < s.w) : Numbered (s.sentNew i) := by
  obtain ⟨hold, hnew⟩ := s.ringSlots_modSlot i
    (fun x => { x with seq := s.win.nextNs, state := .inFlight, sentAt := s.now }) hsplit h.nodup (h.lt (by simp [hsplit]))
  have hslots : (s.sentNew i).ringSlots = _ := hnew
  rw [Numbered, hold, List.filter_append, List.filter_cons_of_neg (by simp [hunsent]), filter_isSent_eq_nil hafter,
    List.append_nil] at hnum
  have hmore : (s.sentNew i).outstanding = s.outstanding + 1 := s.outstanding_sent hopen
  rw [Numbered, hslots, List.filter_append, List.filter_cons_of_pos rfl, filter_isSent_eq_nil hafter, List.map_append, hnum,
    hmore, List.range_succ, List.map_append]
  congr 1
  exact congrArg (fun n => [n]) (confirm_add_outstanding s.win.nextNs s.win.confirmNs).symm

/-- The first QUEUED slot goes in flight (R311): before it nothing is QUEUED, after it everything is. -/
theorem RingInv.sentNew (h : RingInv s) (hc : s.fsm = .connected) {i : Nat}
    (hi : s.firstSlot (fun x => decide (x.state = .queued)) = some i) (hopen : s.outstanding < s.w) : RingInv (s.sentNew i) := by
  obtain ⟨before, after, hsplit, hq, hnq⟩ := s.firstSlot_split _ i hi
  have hqi : (s.slot i).rank = 2 := (s.slot i).rank_queued.mp (of_decide_eq_true hq)
  obtain ⟨hle, hge⟩ := h.ranks hsplit
  rw [hqi] at hle hge
  have hunsent : ∀ j, 2 ≤ (s.slot j).rank → (s.slot j).isSent = false := fun j hj => by
    rw [← Bool.not_eq_true, Slot.isSent_iff_rank]
    omega
  have hmoved : RingInv ((s.setFsm .connecting).modSlot i (fun x =>
      { x with seq := s.win.nextNs, state := .inFlight, sentAt := s.now })) := by
    refine (h.unnumbered (by simp [hc])).moveSlot (by simp) hsplit SlotState.noConfusion (fun j hj => ?_)
      (fun j hj => one_le_two.trans (hge j hj))
    have hne : (s.slot j).rank ≠ 2 := fun hr => of_decide_eq_false (hnq j hj) ((s.slot j).rank_queued.mpr hr)
    exact Nat.le_of_lt_succ (lt_of_le_of_ne (hle j hj) hne)
  exact hmoved.of_numbered rfl rfl (by simp [hc, State.sentNew]) (fun _ =>
    Numbered.sentNew (h.numbered hc) h hsplit (hunsent i hqi.ge) (fun j hj => hunsent j (hge j hj)) hopen)

/-- Where a number is outstanding, a slot is sent. -/
theorem RingInv.firstSent (h : RingInv s) (hc : s.fsm = .connected) (hpos : 0 < s.outstanding) :
    ∃ i, s.firstSlot Slot.isSent = some i := by
  rw [← Option.isSome_iff_exists, ← Option.ne_none_iff_isSome, ne_eq, State.firstSlot_none]
  intro hnone
  have hlen := Numbered.length (h.numbered hc)
  rw [State.ringSlots, filter_isSent_eq_nil hnone] at hlen
  exact hpos.ne hlen

/-- The slot is acknowledged (R321). -/
def Slot.acknowledged (x : Slot) : Slot := { x with state := .acked }

theorem ackOne_of_first {i : Nat} (hi : s.firstSlot Slot.isSent = some i) :
    ackOne s = (s.modSlot i Slot.acknowledged).modWin (fun w => { w with confirmNs := w.confirmNs + 1 }) := by
  rw [ackOne, hi]
  rfl

/-- The slot with the number `confirm_ns` is acknowledged, and `confirm_ns` is the next number. -/
theorem Numbered.ackOne (hnum : Numbered s) (h : RingInv s) (hpos : 0 < s.outstanding) {i : Nat} {before after : List Nat}
    (hsplit : s.ringOrder = before ++ i :: after) (hi : s.firstSlot Slot.isSent = some i) (hsent : (s.slot i).isSent = true)
    (hbefore : ∀ j ∈ before, (s.slot j).isSent = false) : Numbered (ackOne s) := by
  obtain ⟨hold, hnew⟩ := s.ringSlots_modSlot i Slot.acknowledged hsplit h.nodup (h.lt (by simp [hsplit]))
  have hslots : (Machine.ackOne s).ringSlots = (s.modSlot i Slot.acknowledged).ringSlots := by
    rw [ackOne_of_first hi]
    rfl
  have hconfirm : (Machine.ackOne s).win.confirmNs = s.win.confirmNs + 1 := by
    rw [ackOne_of_first hi]
    rfl
  have hless : s.outstanding = (Machine.ackOne s).outstanding + 1 := by
    rw [ackOne_outstanding s hpos]
    omega
  rw [Numbered, hold, List.filter_append, List.filter_cons_of_pos hsent, filter_isSent_eq_nil hbefore, List.nil_append, hless,
    List.range_succ_eq_map, List.map_cons, List.map_cons, List.map_map] at hnum
  rw [Numbered, hslots, hnew, List.filter_append, List.filter_cons_of_neg (by simp [Slot.isSent, Slot.acknowledged]),
    filter_isSent_eq_nil hbefore, List.nil_append, (List.cons.inj hnum).2, hconfirm]
  refine List.map_congr_left (fun j _ => ?_)
  rw [Function.comp_apply, Nat.succ_eq_add_one, BitVec.ofNat_add, BitVec.add_comm (BitVec.ofNat 3 j), BitVec.add_assoc]
  rfl

/-- The first sent slot is acknowledged (R321): before it everything is finished. -/
theorem RingInv.ackOne (h : RingInv s) (hc : s.fsm = .connected) (hpos : 0 < s.outstanding) : RingInv (ackOne s) := by
  obtain ⟨i, hi⟩ := h.firstSent hc hpos
  obtain ⟨before, after, hsplit, hsent, hunsent⟩ := s.firstSlot_split _ i hi
  obtain ⟨hle, _⟩ := h.ranks hsplit
  rw [(s.slot i).isSent_iff_rank.mp hsent] at hle
  have hmoved : RingInv ((s.setFsm .connecting).modSlot i Slot.acknowledged) := by
    refine (h.unnumbered (by simp [hc])).moveSlot (by simp) hsplit SlotState.noConfusion (fun j hj => ?_)
      (fun j _ => Nat.zero_le _)
    have hne : (s.slot j).rank ≠ 1 := fun hr => by simpa [hunsent j hj] using (s.slot j).isSent_iff_rank.mpr hr
    exact Nat.le_of_lt_succ (lt_of_le_of_ne (hle j hj) hne)
  refine hmoved.of_numbered ?_ (by simp) (by simp [hc]) (fun _ =>
    Numbered.ackOne (h.numbered hc) h hpos hsplit hi hsent hunsent)
  rw [ackOne_of_first hi]
  rfl

/-! ### The ends of the ring -/

/-- The place after the ring is a slot (R305). -/
theorem RingInv.ringIndex_count_lt (h : RingInv s) (hroom : s.ring.count.toNat < s.w) :
    s.ringIndex s.ring.count.toNat < s.ring.slots.length := by
  have := s.ringIndex_lt s.ring.count.toNat (by omega)
  have := s.w_lt
  rw [h.seven]
  omega

theorem enqueue_count_toNat (payload : List Byte) (hroom : s.ring.count.toNat < s.w) :
    (enqueue payload s).ring.count.toNat = s.ring.count.toNat + 1 := by
  have := s.w_lt
  show (s.ring.count + 1).toNat = s.ring.count.toNat + 1
  rw [BitVec.toNat_add]
  exact Nat.mod_eq_of_lt (by simp; omega)

/-- Where a slot is free, the occupied slots after Enqueue (R305). -/
theorem enqueue_ringSlots (h : RingInv s) (hroom : s.ring.count.toNat < s.w) (payload : List Byte) :
    (enqueue payload s).ringSlots =
      s.ringSlots ++ [(s.slot (s.ringIndex s.ring.count.toNat)).filled s.eff.retries payload] := by
  have hlen := h.ringIndex_count_lt hroom
  rw [State.ringSlots, enqueue_ringOrder payload hroom, List.map_append, List.map_singleton, enqueue_slot payload _ hlen,
    if_pos rfl]
  congr 1
  refine List.map_congr_left (fun j hj => ?_)
  rw [enqueue_slot payload j hlen, if_neg]
  rintro rfl
  exact s.ringIndex_count_notMem hroom hj

/-- No occupied slot stands after the QUEUED ones. -/
theorem RingInv.rank_le_two (h : RingInv s) {x : Slot} (hx : x ∈ s.ringSlots) : x.rank ≤ 2 := by
  have hfree : x.rank ≠ 3 := fun hr => h.occupied x hx (x.rank_free.mpr hr)
  have := x.rank_le
  omega

/-- Enqueue puts a QUEUED slot at the end (R303, R305). -/
theorem RingInv.enqueue (h : RingInv s) (hu : s.fsm ≠ .uninit) (hroom : s.ring.count.toNat < s.w) (payload : List Byte) :
    RingInv (enqueue payload s) := by
  have hslots := enqueue_ringSlots h hroom payload
  set x := (s.slot (s.ringIndex s.ring.count.toNat)).filled s.eff.retries payload
  have hq : x.state = .queued := rfl
  exact {
    seven := by rw [enqueue_slots, State.modSlot_slots_length, h.seven]
    noWindow := fun hn => absurd hn hu
    headInW := h.headInW
    countLeW := by
      rw [enqueue_count_toNat payload hroom]
      exact hroom
    freeOutside := fun i hi => by
      rw [enqueue_ringOrder payload hroom, List.mem_append, List.mem_singleton, not_or] at hi
      rw [enqueue_slot payload i (h.ringIndex_count_lt hroom), if_neg hi.2]
      exact h.freeOutside i hi.1
    occupied := fun y hy => by
      rw [hslots, List.mem_append, List.mem_singleton] at hy
      obtain hy | rfl := hy
      · exact h.occupied y hy
      · simp [hq]
    ordered := by
      rw [hslots, List.map_append, List.map_singleton, x.rank_queued.mp hq, List.pairwise_append]
      refine ⟨h.ordered, List.pairwise_singleton _ _, fun a ha b hb => ?_⟩
      obtain ⟨y, hy, rfl⟩ := List.mem_map.mp ha
      rw [List.mem_singleton.mp hb]
      exact h.rank_le_two hy
    numbered := fun hc => by
      rw [hslots, List.filter_append, List.filter_cons_of_neg (by simp [Slot.isSent, hq]), List.filter_nil, List.append_nil]
      exact h.numbered hc }

/-- The ring is occupied only in a session. -/
theorem RingInv.session (h : RingInv s) (hpos : s.ring.count ≠ 0) : s.fsm ≠ .uninit := by
  intro hu
  have hcount := h.countLeW
  rw [h.noWindow hu] at hcount
  exact hpos (BitVec.eq_of_toNat_eq (by simpa using hcount))

@[simp] theorem deliverHead_eff (s : State) : (deliverHead s).eff = s.eff := by simp [deliverHead]
@[simp] theorem deliverHead_fsm (s : State) : (deliverHead s).fsm = s.fsm := by simp [deliverHead]
@[simp] theorem deliverHead_win (s : State) : (deliverHead s).win = s.win := by simp [deliverHead]
@[simp] theorem deliverHead_w (s : State) : (deliverHead s).w = s.w := by simp [State.w]
@[simp] theorem deliverHead_count (s : State) : (deliverHead s).ring.count = s.ring.count - 1 := rfl

theorem State.ringIndex_head (hlt : s.ring.head.toNat < s.w) : s.ringIndex 0 = s.ring.head.toNat := Nat.mod_eq_of_lt hlt

/-- `head` moves on by one place, modulo W (R307). -/
theorem deliverHead_head (hw : 0 < s.w) : (deliverHead s).ring.head.toNat = s.ringIndex 1 := by
  have hlt := s.ringIndex_lt 1 hw
  have := s.w_lt
  exact Nat.mod_eq_of_lt (by omega)

/-- One occupied slot less. -/
theorem deliverHead_count_toNat (hpos : s.ring.count ≠ 0) :
    (deliverHead s).ring.count.toNat + 1 = s.ring.count.toNat := by
  rw [deliverHead_count]
  generalize s.ring.count = c at hpos ⊢
  revert c
  decide

/-- Ring order loses its first slot (R307). -/
theorem deliverHead_ringOrder (h : RingInv s) (hpos : s.ring.count ≠ 0) :
    s.ringOrder = s.ring.head.toNat :: (deliverHead s).ringOrder := by
  have hlt := h.headInW (h.session hpos)
  have hindex : ∀ j, (deliverHead s).ringIndex j = s.ringIndex (j + 1) := fun j =>
    calc (deliverHead s).ringIndex j = (s.ringIndex 1 + j) % s.w := by
          rw [State.ringIndex, deliverHead_head (by omega), deliverHead_w]
      _ = s.ringIndex (j + 1) := by
          rw [State.ringIndex, State.ringIndex, Nat.mod_add_mod, Nat.add_assoc, Nat.add_comm 1]
  rw [State.ringOrder, ← deliverHead_count_toNat hpos, List.range_succ_eq_map, List.map_cons, State.ringIndex_head hlt,
    List.map_map]
  exact congrArg _ (List.map_congr_left (fun j _ => (hindex j).symm))

/-- A slot after one round of DeliverCompletions. -/
theorem deliverHead_slot (h : RingInv s) (hpos : s.ring.count ≠ 0) (j : Nat) :
    (deliverHead s).slot j = if j = s.ring.head.toNat then (s.slot j).freed else s.slot j := by
  have hlen : s.ring.head.toNat < s.ring.slots.length := h.lt (by rw [deliverHead_ringOrder h hpos]; simp)
  rw [State.slot, deliverHead_slots]
  refine (s.slot_modSlot _ j _ hlen).trans ?_
  split
  · next he => rw [he]
  · rfl

/-- `head` is no longer in the ring. -/
theorem deliverHead_notMem (h : RingInv s) (hpos : s.ring.count ≠ 0) : s.ring.head.toNat ∉ (deliverHead s).ringOrder := by
  have hnodup := h.nodup
  rw [deliverHead_ringOrder h hpos] at hnodup
  exact (List.nodup_cons.mp hnodup).1

/-- The slots that stay in the ring stay as they are. -/
theorem deliverHead_slot_mem (h : RingInv s) (hpos : s.ring.count ≠ 0) {j : Nat} (hj : j ∈ (deliverHead s).ringOrder) :
    (deliverHead s).slot j = s.slot j := by
  rw [deliverHead_slot h hpos, if_neg]
  rintro rfl
  exact deliverHead_notMem h hpos hj

/-- The occupied slots lose their first. -/
theorem deliverHead_ringSlots (h : RingInv s) (hpos : s.ring.count ≠ 0) :
    s.ringSlots = s.slot s.ring.head.toNat :: (deliverHead s).ringSlots := by
  rw [State.ringSlots, deliverHead_ringOrder h hpos, List.map_cons]
  exact congrArg _ (List.map_congr_left (fun j hj => (deliverHead_slot_mem h hpos hj).symm))

/-- The finished slot at `head` leaves the ring (R307): none of the others changes, and it bore no number. -/
theorem RingInv.deliverHead (h : RingInv s) (hpos : s.ring.count ≠ 0) (hfin : (s.slot s.ring.head.toNat).isFinished = true) :
    RingInv (deliverHead s) := by
  have hu := h.session hpos
  have horder := deliverHead_ringOrder h hpos
  have hslots := deliverHead_ringSlots h hpos
  have hw : 0 < s.w := Nat.zero_lt_of_lt (h.headInW hu)
  exact {
    seven := by rw [deliverHead_slots, State.modSlot_slots_length, h.seven]
    noWindow := fun hn => absurd (by simpa using hn) hu
    headInW := fun _ => by
      rw [deliverHead_head hw, deliverHead_w]
      exact s.ringIndex_lt 1 hw
    countLeW := by
      have := h.countLeW
      have := deliverHead_count_toNat hpos
      rw [deliverHead_w]
      omega
    freeOutside := fun i hi => by
      rw [deliverHead_slot h hpos]
      split
      · rfl
      · next hne => exact h.freeOutside i (by simp [horder, hne, hi])
    occupied := fun x hx => h.occupied x (by simp [hslots, hx])
    ordered := by
      have hord := h.ordered
      rw [hslots] at hord
      exact hord.of_cons
    numbered := fun hc => by
      have hnum := h.numbered (by simpa using hc)
      have hunsent : (s.slot s.ring.head.toNat).isSent = false := by
        rw [← Bool.not_eq_true, Slot.isSent_iff_rank, (Slot.isFinished_iff_rank _).mp hfin]
        decide
      rw [hslots, List.filter_cons_of_neg (by simp [hunsent])] at hnum
      simpa [State.outstanding] using hnum }

/-! ### Fresh and ended sessions -/

/-- An empty ring meets the invariant. -/
theorem ringInv_of_reset (hr : s.ring = Ring.reset) (hw : s.fsm = .uninit ↔ s.w = 0)
    (hwin : s.win.nextNs = s.win.confirmNs) : RingInv s := by
  have horder : s.ringOrder = [] := by rw [State.ringOrder, hr]; rfl
  have hslots : s.ringSlots = [] := by rw [State.ringSlots, horder]; rfl
  exact {
    seven := by rw [hr]; rfl
    noWindow := hw.mp
    headInW := fun hu => by
      rw [hr]
      exact Nat.pos_of_ne_zero (fun h0 => hu (hw.mpr h0))
    countLeW := by rw [hr]; exact Nat.zero_le _
    freeOutside := fun i _ => by
      have hslot : s.slot i = State.reset.slot i := by rw [State.slot, hr]; rfl
      rw [hslot, reset_slot]
      rfl
    occupied := by simp [hslots]
    ordered := by simp [hslots]
    numbered := fun _ => numbered_of_none (by simp [hslots]) hwin }

end

/-- A slot that SelectRetx looks for, as `Due` says it (R312). -/
theorem due_iff (s : State) (x : Slot) : (s.slotExpired x && decide (x.retriesLeft ≠ 0)) = true ↔ Due s x := by
  rw [Bool.and_eq_true, s.slotExpired_iff, decide_eq_true_iff, and_assoc]
  rfl

/-- Every part of a step keeps the ring order. -/
theorem ringInv_kept : Kept RingInv where
  block _ _ hb h := h.congr hb.ring (by rw [hb.eff]) hb.win hb.fsm
  flags _ _ h := h.congr rfl rfl rfl rfl
  times _ _ h := h.congr rfl rfl rfl rfl
  counters _ _ _ h := h.congr rfl rfl rfl rfl
  moves s x hs hx hc h := RingInv.of_same_ring _ _ h rfl rfl rfl rfl (by simp [hs, hx]) (fun he => absurd he hc)
  fails _ hc h := h.failPending hc
  window s _ hf h := RingInv.of_same_ring _ _ h rfl rfl (hf s.win).1 (hf s.win).2 Iff.rfl id
  tag _ _ _ h := h.congr rfl rfl rfl rfl
  builds _ _ _ _ h := h.congr rfl rfl rfl rfl
  starts _ _ _ _ h := h.congr rfl rfl rfl rfl
  sendsNew _ _ hc hi hopen h := h.sentNew hc hi hopen
  resends s i _ hi h := by
    obtain ⟨_, _, hsplit, hdue, _⟩ := s.firstSlot_split _ i hi
    obtain ⟨hawaiting, _⟩ := (due_iff s _).mp hdue
    exact RingInv.modSlot s i _ h (by simp [hsplit]) (by simp [Slot.rank, hawaiting]) rfl
  polls _ _ _ h := h.congr rfl rfl rfl rfl
  encodes _ _ _ _ h := h.congr rfl rfl rfl rfl
  awaits s i hi h := RingInv.modSlot s i _ h (h.mem (by simp [hi])) (by simp [Slot.rank, hi]) rfl
  frees _ hpos hfin h := h.deliverHead hpos hfin
  credits _ h := h.congr rfl rfl rfl rfl
  connects s hu h := RingInv.connect s h hu
  reconnects _ hc h := h.reconnect hc
  acks _ hc hpos h := h.ackOne hc hpos
  rewinds _ hc h := h.rewind hc
  decState _ _ h := h.congr rfl rfl rfl rfl
  decClear _ h := h.congr rfl rfl rfl rfl
  stores _ _ _ h := h.congr rfl rfl rfl rfl
  writes _ _ h := h.congr rfl rfl rfl rfl
  kaTimeout _ _ _ h := h.congr rfl rfl rfl rfl
  closes _ _ h := h.congr rfl rfl rfl rfl
  inits s _ hlegal _ := by
    obtain ⟨_, _, hw, _⟩ := Cfg.legal_spec hlegal
    exact ringInv_of_reset rfl ⟨Fsm.noConfusion, fun h0 => absurd h0 (Nat.ne_of_gt hw)⟩ rfl
  enqueues _ payload hu hroom h := h.enqueue hu hroom payload
  ends _ _ := ringInv_of_reset rfl ⟨fun _ => rfl, fun _ => rfl⟩ rfl
  resets _ _ := ringInv_of_reset rfl ⟨fun _ => rfl, fun _ => rfl⟩ rfl

/-- Settles O57, part by part of a step, as `Kept` lists them. -/
theorem ringKept : Obligations.RingKept := fun _ _ h hstep => ringInv_kept.step h hstep

end Sys2Proof.Machine

/-! ## Completions (R307) -/

namespace Sys2Proof.Machine

theorem mapIdx_same {α : Type} (xs : List α) : xs.mapIdx (fun _ x => x) = xs := List.ext_getElem? (fun i => by simp)

/-- Changing one entry, and then the entries at some other places, is changing the entries at all these places. -/
theorem mapIdx_modify_mem {α : Type} (f : α → α) {i : Nat} {places : List Nat} (hi : i ∉ places) (xs : List α) :
    (xs.modify i f).mapIdx (fun j x => if j ∈ places then f x else x) =
      xs.mapIdx (fun j x => if j ∈ i :: places then f x else x) := by
  apply List.ext_getElem?
  intro j
  simp only [List.getElem?_mapIdx, List.getElem?_modify, List.mem_cons, Option.map_map, Option.map_eq_map]
  congr 1
  funext x
  by_cases hj : i = j
  · subst hj
    simp [hi]
  · simp [hj, Ne.symm hj]

section

variable {s : State}

/-- The finished slots at the front of the ring, in ring order. -/
def State.finishedOrder (s : State) : List Nat := s.ringOrder.take (s.ringSlots.takeWhile Slot.isFinished).length

/-- The slots `done`, the first of the ring, are freed with their SENT events (R307). -/
def State.delivered (s : State) (done : List Nat) : State :=
  { s with
    txp := { s.txp with events := s.txp.events ++ done.map s.sentEvent }
    enc := { s.enc with txfSlotValid := s.enc.txfSlotValid && !decide (s.enc.txfSlot.toNat ∈ done) }
    ring :=
      { head := BitVec.ofNat 3 ((s.ring.head.toNat + done.length) % s.w)
        count := s.ring.count - BitVec.ofNat 3 done.length
        slots := s.ring.slots.mapIdx (fun i x => if i ∈ done then x.freed else x) } }

/-- With no slot freed nothing changes. -/
theorem State.delivered_nil (h : RingInv s) : s.delivered [] = s := by
  have hhead : s.ring.head.toNat % s.w = s.ring.head.toNat := by
    by_cases hu : s.fsm = .uninit
    · rw [h.noWindow hu, Nat.mod_zero]
    · exact Nat.mod_eq_of_lt (h.headInW hu)
  simp [State.delivered, hhead, mapIdx_same]

/-- The event of a slot that stays in the ring is the same after a round. -/
theorem deliverHead_sentEvent (h : RingInv s) (hpos : s.ring.count ≠ 0) {j : Nat} (hj : j ∈ (deliverHead s).ringOrder) :
    (deliverHead s).sentEvent j = s.sentEvent j := by
  simp only [State.sentEvent, State.slotPayload, deliverHead_slot_mem h hpos hj]

/-- All that a round of DeliverCompletions does. -/
theorem deliverHead_eq (s : State) :
    deliverHead s =
      { s with
        txp := { s.txp with events := s.txp.events ++ [s.sentEvent s.ring.head.toNat] }
        enc := { s.enc with txfSlotValid := s.enc.txfSlotValid && !decide (s.enc.txfSlot = s.ring.head) }
        ring :=
          { head := BitVec.ofNat 3 (s.ringIndex 1)
            count := s.ring.count - 1
            slots := s.ring.slots.modify s.ring.head.toNat Slot.freed } } := by
  simp only [deliverHead, emit, State.modPort, State.modSlot, State.modRing, State.modEnc]
  rfl

/-- A round, and then the slots `done`: the slot at `head` and the slots `done`. -/
theorem delivered_deliverHead (h : RingInv s) (hpos : s.ring.count ≠ 0) {done : List Nat}
    (hdone : ∀ j ∈ done, j ∈ (deliverHead s).ringOrder) :
    (deliverHead s).delivered done = s.delivered (s.ring.head.toNat :: done) := by
  have hevents : (deliverHead s).txp.events ++ done.map (deliverHead s).sentEvent =
      s.txp.events ++ (s.ring.head.toNat :: done).map s.sentEvent := by
    rw [List.map_congr_left (fun j hj => deliverHead_sentEvent h hpos (hdone j hj))]
    exact (List.append_cons _ _ _).symm
  have htag : decide (s.enc.txfSlot.toNat ∈ s.ring.head.toNat :: done) =
      (decide (s.enc.txfSlot = s.ring.head) || decide (s.enc.txfSlot.toNat ∈ done)) := by
    simp only [List.mem_cons, Bool.decide_or, BitVec.toNat_inj]
  have hhead : ((deliverHead s).ring.head.toNat + done.length) % s.w = (s.ring.head.toNat + (done.length + 1)) % s.w := by
    rw [deliverHead_head (Nat.zero_lt_of_lt (h.headInW (h.session hpos))), State.ringIndex, Nat.mod_add_mod, Nat.add_assoc,
      Nat.add_comm 1]
  have hcount : s.ring.count - 1 - BitVec.ofNat 3 done.length = s.ring.count - BitVec.ofNat 3 (done.length + 1) := by
    rw [BitVec.ofNat_add, BitVec.sub_sub, BitVec.add_comm]
    rfl
  have hslots := mapIdx_modify_mem Slot.freed (fun hm => deliverHead_notMem h hpos (hdone _ hm)) s.ring.slots
  rw [State.delivered, hevents, deliverHead_w, hhead, deliverHead_eq]
  simp only [State.delivered, List.length_cons, htag, ← hcount, ← hslots, Bool.not_or, ← Bool.and_assoc]

/-- The finished slots at the front of the ring, where the one at `head` is finished. -/
theorem finishedOrder_deliverHead (h : RingInv s) (hpos : s.ring.count ≠ 0)
    (hfin : (s.slot s.ring.head.toNat).isFinished = true) :
    s.finishedOrder = s.ring.head.toNat :: (deliverHead s).finishedOrder := by
  rw [State.finishedOrder, deliverHead_ringSlots h hpos, deliverHead_ringOrder h hpos, List.takeWhile_cons_of_pos hfin,
    List.length_cons, List.take_succ_cons]
  rfl

theorem finishedOrder_of_empty (hempty : s.ring.count = 0) : s.finishedOrder = [] := by
  simp [State.finishedOrder, State.ringOrder, hempty]

theorem finishedOrder_of_unfinished (h : RingInv s) (hpos : s.ring.count ≠ 0)
    (hfin : (s.slot s.ring.head.toNat).isFinished = false) : s.finishedOrder = [] := by
  rw [State.finishedOrder, deliverHead_ringSlots h hpos, List.takeWhile_cons_of_neg (by simp [hfin])]
  rfl

/-- The slots that are freed are as many as the finished ones at the front. -/
theorem finishedOrder_length (s : State) : s.finishedOrder.length = (s.ringSlots.takeWhile Slot.isFinished).length := by
  have hle : (s.ringSlots.takeWhile Slot.isFinished).length ≤ s.ringOrder.length :=
    (List.takeWhile_prefix _).length_le.trans (by rw [State.ringSlots, List.length_map])
  rw [State.finishedOrder, List.length_take, Nat.min_eq_left hle]

/-- The loop of DeliverCompletions, with rounds enough for every occupied slot. -/
theorem deliverLoop_eq (n : Nat) (h : RingInv s) (hn : s.ring.count.toNat ≤ n) :
    deliverLoop n s = s.delivered s.finishedOrder := by
  induction n generalizing s with
  | zero =>
    have hempty : s.ring.count = 0 := BitVec.eq_of_toNat_eq (Nat.le_zero.mp hn)
    rw [finishedOrder_of_empty hempty, State.delivered_nil h]
    rfl
  | succ n ih =>
    rw [deliverLoop]
    split_ifs with hround
    · obtain ⟨hpos, hfin⟩ := hround
      have hless := deliverHead_count_toNat hpos
      rw [ih (h.deliverHead hpos hfin) (by omega), finishedOrder_deliverHead h hpos hfin]
      exact delivered_deliverHead h hpos (fun _ hj => List.mem_of_mem_take hj)
    · have hnone : s.finishedOrder = [] := by
        by_cases hempty : s.ring.count = 0
        · exact finishedOrder_of_empty hempty
        · exact finishedOrder_of_unfinished h hempty (by simpa using fun hfin => hround ⟨hempty, hfin⟩)
      rw [hnone, State.delivered_nil h]

end

/-- Settles O22: `deliverLoop_eq`, by induction on the rounds. -/
theorem completionsDelivered : Obligations.CompletionsDelivered := by
  intro s h k done
  have hdone : s.finishedOrder = done := rfl
  have hk : done.length = k := finishedOrder_length s
  rw [deliverCompletions, deliverLoop_eq _ h le_rfl, hdone, State.delivered, hk]
  rfl

/-! ## Received N(R) (R320, R321) -/

section

variable {s : State}

/-- The sent slots, in ring order. -/
def State.sentOrder (s : State) : List Nat := s.ringOrder.filter (fun i => (s.slot i).isSent)

theorem RingInv.sentOrder_length (h : RingInv s) (hc : s.fsm = .connected) : s.sentOrder.length = s.outstanding := by
  rw [← Numbered.length (h.numbered hc), State.ringSlots, List.filter_map, List.length_map]
  rfl

theorem firstSlot_isSent (s : State) : s.firstSlot Slot.isSent = s.sentOrder.head? := List.head?_filter.symm

/-- A round of ProcessNR takes the first of the sent slots. -/
theorem sentOrder_ackOne (h : RingInv s) {i : Nat} {rest : List Nat} (hsent : s.sentOrder = i :: rest) :
    (ackOne s).sentOrder = rest := by
  have hi : i ∈ s.ringOrder := (List.mem_filter.mp (hsent ▸ List.mem_cons_self)).1
  have hslot : ∀ j, ((ackOne s).slot j).isSent = ((s.slot j).isSent && decide (j ≠ i)) := fun j => by
    rw [ackOne_of_first (by rw [firstSlot_isSent, hsent]; rfl)]
    refine (congrArg Slot.isSent (s.slot_modSlot i j Slot.acknowledged (h.lt hi))).trans ?_
    by_cases hj : j = i <;> simp [hj, Slot.isSent, Slot.acknowledged]
  have horder : (ackOne s).ringOrder = s.ringOrder := State.ringOrder_congr _ _ (by simp) (by simp) (by simp)
  have hnodup : (i :: rest).Nodup := hsent ▸ h.nodup.filter _
  calc (ackOne s).sentOrder = s.sentOrder.filter (fun j => decide (j ≠ i)) := by
        simp only [State.sentOrder, horder, hslot, List.filter_filter, Bool.and_comm]
    _ = rest := by
        rw [hsent, List.filter_cons_of_neg (by simp), List.filter_eq_self]
        rintro j hj
        simpa using fun he : j = i => (List.nodup_cons.mp hnodup).1 (he ▸ hj)

theorem repeat_succ_left {α : Type} (f : α → α) (n : Nat) (a : α) : Nat.repeat f (n + 1) a = Nat.repeat f n (f a) := by
  induction n with
  | zero => rfl
  | succ n ih => exact congrArg f ih

/-- The slots after `n` rounds of ProcessNR: the first `n` sent ones are acknowledged. -/
theorem repeat_ackOne_ring (n : Nat) (h : RingInv s) (hc : s.fsm = .connected) (hn : n ≤ s.outstanding) :
    (Nat.repeat ackOne n s).ring =
      { s.ring with slots := s.ring.slots.mapIdx (fun i x => if i ∈ s.sentOrder.take n then x.acknowledged else x) } := by
  induction n generalizing s with
  | zero =>
    simp [Nat.repeat, mapIdx_same]
  | succ n ih =>
    have hpos : 0 < s.outstanding := Nat.zero_lt_of_lt hn
    obtain ⟨i, rest, hsent⟩ := List.exists_cons_of_length_pos ((h.sentOrder_length hc).symm ▸ hpos)
    have hfirst : s.firstSlot Slot.isSent = some i := by rw [firstSlot_isSent, hsent]; rfl
    have hi : i ∉ rest.take n := fun hm =>
      (List.nodup_cons.mp (hsent ▸ h.nodup.filter _ : (i :: rest).Nodup)).1 (List.mem_of_mem_take hm)
    have hring : (ackOne s).ring = (s.modSlot i Slot.acknowledged).ring := by rw [ackOne_of_first hfirst]; rfl
    rw [repeat_succ_left, ih (h.ackOne hc hpos) (by simpa using hc) (by rw [ackOne_outstanding s hpos]; omega),
      sentOrder_ackOne h hsent, hsent, List.take_succ_cons, ← mapIdx_modify_mem _ hi, hring]
    rfl

end

/-- Settles O32: the ring by `repeat_ackOne_ring`, and all else by `repeat_ackOne_eq`. -/
theorem receivedNR : Obligations.ReceivedNR := by
  intro s nr h hc sent
  refine ⟨fun hvalid => ?_, fun hinvalid => ?_⟩
  · have hend := confirm_add_outstanding nr s.win.confirmNs
    rw [processNR, if_pos ((s.validNR_iff nr).mpr hvalid), repeat_ackOne_eq, repeat_ackOne_ring _ h hc hvalid, hend]
    rfl
  · rw [processNR, if_neg]
    rw [State.validNR_iff]
    omega

end Sys2Proof.Machine

/-! ## The five priorities of SelectFrame (R308–R315) -/

namespace Sys2Proof.Machine

/-! ### From a priority to SelectFrame -/

/-- BuildFrame leaves in TxBuf what `Selects` asks for (R274, log 27). -/
theorem Selects.of_built {s v : State} {c : Byte} {p : List Byte} (h : selectFrame s = (buildFrame c p v, true)) :
    Selects s v c p := by
  refine ⟨memWrite v.enc.buf 0 (interior v.crcKind c p), h, memRead_memWrite _ _ _ _, fun a ha => ?_⟩
  rw [Memory.read, Memory.read, find_memWrite, if_neg]
  omega

section

variable {s t : State}

theorem selectFrame_none (h : selectByPriority (timerPhase s) = none) : selectFrame s = (timerPhase s, false) := by
  rw [selectFrame, h]

theorem selectFrame_some (h : selectByPriority (timerPhase s) = some t) : selectFrame s = (t, true) := by
  rw [selectFrame, h]

/-- A selected I frame (R314). -/
theorem Selects.of_selectedI {v : State} {c : Byte} {p : List Byte}
    (h : selectByPriority (timerPhase s) = some (selectedI (buildFrame c p v))) : Selects s (selectedI v) c p :=
  .of_built (selectFrame_some h)

/-- Any other frame selected (R314). -/
theorem Selects.of_selectedOther {v : State} {c : Byte} {p : List Byte}
    (h : selectByPriority (timerPhase s) = some (selectedOther (buildFrame c p v))) : Selects s (selectedOther v) c p :=
  .of_built (selectFrame_some h)

theorem selectByPriority_of_selectU (h : selectU s = some t) : selectByPriority s = some (selectedOther t) := by
  rw [selectByPriority, h]

theorem selectByPriority_offline (hU : selectU s = none) (hc : s.fsm ≠ .connected) : selectByPriority s = none := by
  rw [selectByPriority, hU]
  exact if_neg hc

theorem selectByPriority_of_selectAck (hU : selectU s = none) (hc : s.fsm = .connected) (h : selectAck s = some t) :
    selectByPriority s = some (selectedOther t) := by
  simp only [selectByPriority, hU, if_pos hc, h]

theorem selectByPriority_of_selectNew (hU : selectU s = none) (hc : s.fsm = .connected) (hA : selectAck s = none)
    (h : selectNew s = some t) : selectByPriority s = some (selectedI t) := by
  simp only [selectByPriority, hU, if_pos hc, hA, h]

theorem selectByPriority_of_selectRetx (hU : selectU s = none) (hc : s.fsm = .connected) (hA : selectAck s = none)
    (hN : selectNew s = none) (h : selectRetx s = some t) : selectByPriority s = some (selectedI t) := by
  simp only [selectByPriority, hU, if_pos hc, hA, hN, h]

theorem selectByPriority_last (hU : selectU s = none) (hc : s.fsm = .connected) (hA : selectAck s = none)
    (hN : selectNew s = none) (hR : selectRetx s = none) : selectByPriority s = (selectKeepAlive s).map selectedOther := by
  simp only [selectByPriority, hU, if_pos hc, hA, hN, hR]

/-! ### Priorities with nothing to send -/

theorem NoUnnumbered.selectU (h : NoUnnumbered s) : selectU s = none := by
  simp [Machine.selectU, h.ua, h.frmr, h.sabm, h.disc]

theorem NoAckDue.selectAck (h : NoAckDue s) : selectAck s = none := by
  have hwait : ¬(s.flag.ackOwed && expired s.tim.ackSince s.now s.eff.ackDefer) = true := by
    rw [Bool.and_eq_true, expired_iff]
    rintro ⟨howed, hover⟩
    have := h.ack howed
    omega
  simp [Machine.selectAck, h.rej, h.poll, hwait]

theorem NoNewFrame.selectNew (h : NoNewFrame s) : selectNew s = none := by
  unfold Machine.selectNew
  obtain hbusy | hnone | hfull := h
  · rw [if_pos hbusy]
  · have hfirst : s.firstSlot (fun x => decide (x.state = .queued)) = none :=
      (s.firstSlot_none _).mpr (fun i hi => decide_eq_false (hnone i hi))
    simp only [hfirst, ite_self]
  · split
    · rfl
    · split
      · rfl
      · exact if_pos hfull

theorem NoRetransmission.selectRetx (h : NoRetransmission s) : selectRetx s = none := by
  unfold Machine.selectRetx
  obtain hbusy | hnone := h
  · rw [if_pos hbusy]
  · have hfirst : s.firstSlot (fun x => s.slotExpired x && decide (x.retriesLeft ≠ 0)) = none :=
      (s.firstSlot_none _).mpr (fun i hi => by
        rw [← Bool.not_eq_true, due_iff]
        exact hnone i hi)
    simp only [hfirst, ite_self]

/-! ### I frames -/

/-- The first slot with a property, as SelectFrame finds it. -/
theorem FirstInRing.firstSlot {p : Slot → Prop} {q : Slot → Bool} {i : Nat} (h : FirstInRing s p i)
    (hq : ∀ x, q x = true ↔ p x) : s.firstSlot q = some i := by
  obtain ⟨before, after, hsplit, hp, hbefore⟩ := h
  refine s.firstSlot_of_split q i hsplit ((hq _).mpr hp) (fun j hj => ?_)
  rw [← Bool.not_eq_true, hq]
  exact hbefore j hj

/-- A slot that is not FREE is one of the seven: any other number reads as a FREE slot (log 21). -/
theorem State.lt_of_not_free {i : Nat} (h : (s.slot i).state ≠ .free) : i < s.ring.slots.length := by
  by_contra hge
  rw [State.slot, List.getD_eq_getElem?_getD, List.getElem?_eq_none (Nat.le_of_not_lt hge)] at h
  exact h rfl

/-- What a selection of slot `i` leaves, but for the frame in TxBuf: `g` is the change of the slot that R311 and R312 make, besides
the start of its timer. -/
def State.slotSent (s : State) (i : Nat) (g : Slot → Slot) : State :=
  { s with
    win := { s.win with lastNrSent := s.win.nextNr }
    flag := { s.flag with ackOwed := false }
    ring := { s.ring with slots := s.ring.slots.modify i (fun x => { g x with state := .inFlight, sentAt := s.now }) }
    enc := { s.enc with txfSlot := BitVec.ofNat 3 i, txfSlotValid := true } }

theorem sendSlot_eq (i : Nat) (s : State) :
    sendSlot i s =
      buildFrame (ctrlI ((s.slotSent i id).slot i).seq false s.win.nextNr) ((s.slotSent i id).slotPayload i)
        (s.slotSent i id) := by
  simp only [sendSlot, sendsNR, State.slotSent, State.modSlot, State.modRing, State.modEnc, State.modWin, State.modFlag, id]

/-- The I frame of a slot that `g` has changed, the payload as it was (R311, R312). -/
theorem sendSlot_modSlot {i : Nat} (hi : i < s.ring.slots.length) {g : Slot → Slot}
    (hg : ∀ x, (g x).len = x.len ∧ (g x).ram = x.ram) :
    sendSlot i (s.modSlot i g) =
      buildFrame (ctrlI (g (s.slot i)).seq false s.win.nextNr) (s.slotPayload i) (s.slotSent i g) := by
  have hstate : (s.modSlot i g).slotSent i id = s.slotSent i g := by
    simp only [State.slotSent, State.modSlot, State.modRing, List.modify_modify_eq]
    rfl
  have hslot : (s.slotSent i g).slot i = { g (s.slot i) with state := .inFlight, sentAt := s.now } :=
    (s.slot_modSlot i i _ hi).trans (if_pos rfl)
  have hpayload : (s.slotSent i g).slotPayload i = s.slotPayload i := by
    rw [State.slotPayload, State.slotPayload, hslot, (hg _).1, (hg _).2]
  rw [sendSlot_eq, hstate, hpayload, hslot, State.modSlot_win]

end

/-- What a selection of the keep-alive RR leaves, but for the frame in TxBuf; `f` counts it (R313, R314, R315). -/
theorem selectedOther_poll (s : State) (f : Counters → Counters) :
    selectedOther ((sendsNR (s.modCtr f)).modFlag (fun g => { g with pollOwed := false })) =
      { s with
        win := { s.win with lastNrSent := s.win.nextNr }
        flag := { s.flag with ackOwed := false, pollOwed := false }
        ctr := f s.ctr
        tim := { s.tim with lastTx := s.now }
        enc := { s.enc with txfSlotValid := false } } := by
  simp only [selectedOther, selectedI, sendsNR, State.modWin, State.modFlag, State.modCtr, State.modTim, State.modEnc]

/-! ### The octets (R270) -/

theorem ctrlS_rej (nr : Seq) : ctrlS 0b01 false nr = 0x05#8 ||| (nr.setWidth 8 <<< 5) := by revert nr; decide

theorem ctrlS_rr (nr : Seq) : ctrlS 0b00 false nr = 0x01#8 ||| (nr.setWidth 8 <<< 5) := by revert nr; decide

theorem ctrlS_rr_poll (nr : Seq) : ctrlS 0b00 true nr = 0x11#8 ||| (nr.setWidth 8 <<< 5) := by revert nr; decide

theorem ctrlI_noPoll (ns nr : Seq) : ctrlI ns false nr = (ns.setWidth 8 <<< 1) ||| (nr.setWidth 8 <<< 5) := by
  revert ns nr; decide

/-! ### The five priorities -/

/-- Settles O23: the branches of SelectU, in its order. -/
theorem priorityOne : Obligations.PriorityOne := by
  intro s u e tm
  have built : ∀ {c : Byte} {v : State}, selectU u = some (buildFrame c [] v) → Selects s (selectedOther v) c [] :=
    fun h => .of_selectedOther (selectByPriority_of_selectU h)
  refine ⟨fun hua => ?_, fun hua hfrmr => ?_, fun hua hfrmr hsabm => ?_, fun hua hfrmr hsabm hdisc => ?_,
    NoUnnumbered.selectU⟩
  · exact built (by rw [selectU, if_pos hua])
  · exact built (by rw [selectU, if_neg (by simp [hua]), if_pos hfrmr])
  · exact built (by rw [selectU, if_neg (by simp [hua]), if_neg (by simp [hfrmr]), if_pos hsabm])
  · exact built (by
      rw [selectU, if_neg (by simp [hua]), if_neg (by simp [hfrmr]), if_neg (by simp [hsabm]), if_pos hdisc])

/-- Settles O24: the branches of SelectAck, in its order. -/
theorem priorityTwo : Obligations.PriorityTwo := by
  refine ⟨fun u => NoAckDue.selectAck, ?_⟩
  intro s u v hc hU
  have built : ∀ {c : Byte} {v : State}, selectAck u = some (buildFrame c [] v) → Selects s (selectedOther v) c [] :=
    fun h => .of_selectedOther (selectByPriority_of_selectAck hU.selectU hc h)
  refine ⟨fun hrej => ?_, fun hrej hdue => ?_⟩
  · rw [← ctrlS_rej]
    exact built (by rw [selectAck, if_pos hrej])
  · rw [← ctrlS_rr]
    exact built (by rw [selectAck, if_neg (by simp [hrej]), if_pos (by
      simpa only [Bool.or_eq_true, Bool.and_eq_true, expired_iff] using hdue)])

/-- Settles O25: SelectNew sends the slot with the number `next_ns`. -/
theorem priorityThree : Obligations.PriorityThree := by
  refine ⟨fun u => NoNewFrame.selectNew, ?_⟩
  intro s i u hc hU hA hbusy _ hfirst hopen
  have hfound : u.firstSlot (fun x => decide (x.state = .queued)) = some i := hfirst.firstSlot (fun x => decide_eq_true_iff)
  have hi : i < u.ring.slots.length := by
    obtain ⟨_, _, _, hq, _⟩ := hfirst
    exact State.lt_of_not_free (by simp [hq])
  have hnew : selectNew u = some (sendSlot i ((u.modWin (fun w => { w with nextNs := w.nextNs + 1 })).modSlot i
      (fun x => { x with seq := u.win.nextNs }))) := by
    simp only [selectNew, hbusy, Bool.false_eq_true, if_false, hfound]
    exact if_neg (Nat.not_le.mpr hopen)
  have hsent := selectByPriority_of_selectNew hU.selectU hc hA.selectAck hnew
  rw [sendSlot_modSlot (s := u.modWin _) hi, ctrlI_noPoll] at hsent
  · exact Selects.of_selectedI hsent
  · exact fun _ => ⟨rfl, rfl⟩

/-- Settles O26: SelectRetx sends the slot with its old number and one retry less. -/
theorem priorityFour : Obligations.PriorityFour := by
  refine ⟨fun u => NoRetransmission.selectRetx, ?_⟩
  intro s i u hc hU hA hN hbusy _ hfirst
  have hfound := hfirst.firstSlot (fun x => due_iff u x)
  have hi : i < u.ring.slots.length := by
    obtain ⟨_, _, _, hdue, _⟩ := hfirst
    exact State.lt_of_not_free (by simp [hdue.1])
  have hretx : selectRetx u = some (sendSlot i (u.modSlot i (fun x => { x with retriesLeft := x.retriesLeft - 1 }))) := by
    simp only [selectRetx, hbusy, Bool.false_eq_true, if_false, hfound]
  have hsent := selectByPriority_of_selectRetx hU.selectU hc hA.selectAck hN.selectNew hretx
  rw [sendSlot_modSlot hi, ctrlI_noPoll] at hsent
  · exact Selects.of_selectedI hsent
  · exact fun _ => ⟨rfl, rfl⟩

/-- Settles O27: priority 5 is the last that SelectFrame tries, and only in CONNECTED. -/
theorem priorityFiveOrNothing : Obligations.PriorityFiveOrNothing := by
  intro s u hU
  refine ⟨fun hc hA hN hR => ?_, fun hc => selectFrame_none (selectByPriority_offline hU.selectU hc)⟩
  have hlast := selectByPriority_last hU.selectU hc hA.selectAck hN.selectNew hR.selectRetx
  refine ⟨fun hon hidle => ?_, fun hoff => ?_⟩
  · rw [← ctrlS_rr_poll]
    rw [selectKeepAlive, if_neg (by rw [expired_eq_false]; exact not_or.mpr ⟨hon, Nat.not_lt.mpr hidle⟩)] at hlast
    have hsent := Selects.of_selectedOther hlast
    rwa [selectedOther_poll] at hsent
  · rw [selectKeepAlive, if_pos (by rwa [expired_eq_false])] at hlast
    exact selectFrame_none hlast

end Sys2Proof.Machine

/-! ## The receipt of I and S frames, FRMR triggers, and frames without effect (R360–R369) -/

namespace Sys2Proof.Machine

theorem Running.of_connected {s : State} (hc : s.fsm = .connected) (hopen : s.closing = false) : Running s :=
  ⟨by simp [hc], hopen⟩

section

variable {s : State}

/-! ### Which frames act -/

/-- A frame that must carry no payload and carries none (R273). -/
theorem onFrame_noPayload_nil (h : Running s) (hnil : s.rxPayload = []) (k : State → State) :
    onFrame (noPayload k) s = k (credited s) := by
  rw [onFrame_running _ s h, noPayload_nil _ (credited s) hnil]

/-- A frame that must carry no payload and carries one (R273). -/
theorem onFrame_noPayload_cons (h : Running s) (hcons : s.rxPayload ≠ []) (k : State → State) :
    onFrame (noPayload k) s = frmrTrigger (credited s) := by
  rw [onFrame_running _ s h, noPayload_cons _ (credited s) hcons]

/-- An I frame in CONNECTED. -/
theorem onFrame_whenConnected_yes (hc : s.fsm = .connected) (hopen : s.closing = false) (k : State → State) :
    onFrame (whenConnected k) s = k (credited s) := by
  rw [onFrame_running _ s (.of_connected hc hopen), whenConnected_yes _ (credited s) hc]

/-- An S frame in CONNECTED. -/
theorem onFrame_noPayload_whenConnected_yes (hc : s.fsm = .connected) (hopen : s.closing = false) (hnil : s.rxPayload = [])
    (k : State → State) : onFrame (noPayload (whenConnected k)) s = k (credited s) := by
  rw [onFrame_noPayload_nil (.of_connected hc hopen) hnil, whenConnected_yes _ (credited s) hc]

/-! ### What ReceiveI and ReceiveS do -/

/-- ProcessNR in a state with the ring, W and the window of another one: the slots become what they become there. -/
theorem processNR_congr {t : State} (nr : Seq) (hr : t.ring = s.ring) (he : t.eff = s.eff)
    (hn : t.win.nextNs = s.win.nextNs) (hc : t.win.confirmNs = s.win.confirmNs) :
    (processNR nr t).1 =
      { t with
        win := { t.win with confirmNs :=
          if (nr - s.win.confirmNs).toNat ≤ (s.win.nextNs - s.win.confirmNs).toNat then nr else s.win.confirmNs }
        ring := (processNR nr s).1.ring } := by
  rw [processNR_eq, processNR_ring_congr nr s t hr he hn hc, hn, hc]

theorem receiveI_inSeq (s : State) (pf : Bool) (nr : Seq) :
    receiveI s.win.nextNr pf nr s =
      { s with
        rxp := { s.rxp with events := s.rxp.events ++ [.frame 0xFF s.rxPayload] }
        win := { s.win with
          nextNr := s.win.nextNr + 1
          confirmNs := if (nr - s.win.confirmNs).toNat ≤ (s.win.nextNs - s.win.confirmNs).toNat then nr else s.win.confirmNs }
        ring := (processNR nr s).1.ring
        tim := { s.tim with ackSince := if s.flag.ackOwed = true then s.tim.ackSince else s.now }
        flag := { s.flag with ackOwed := true, rejSent := false, pollOwed := s.flag.pollOwed || pf } } := by
  rw [receiveI, if_pos rfl, receiveInSeq, owePoll_eq, processNR_congr (s := s)]
  all_goals split_ifs <;> rfl

theorem receiveI_outOfSeq (s : State) {ns : Seq} (hns : ns ≠ s.win.nextNr) (pf : Bool) (nr : Seq) :
    receiveI ns pf nr s =
      { s with flag := { s.flag with rejSent := true, rejOwed := s.flag.rejOwed || !s.flag.rejSent } } := by
  rw [receiveI, if_neg hns, receiveOutOfSeq]
  split_ifs with hsent
  · rw [hsent, Bool.not_true, Bool.or_false, ← hsent]
  · rw [Bool.eq_false_of_not_eq_true hsent, Bool.not_false, Bool.or_true]
    rfl

/-- What the three S types have in common: the poll, ProcessNR and `peer_busy` (R368). -/
theorem setPeerBusy_processNR_owePoll (s : State) (busy pf : Bool) (nr : Seq) :
    setPeerBusy busy (processNR nr (owePoll pf s)).1 =
      { s with
        win := { s.win with confirmNs :=
          if (nr - s.win.confirmNs).toNat ≤ (s.win.nextNs - s.win.confirmNs).toNat then nr else s.win.confirmNs }
        ring := (processNR nr s).1.ring
        flag := { s.flag with peerBusy := busy, pollOwed := s.flag.pollOwed || pf } } := by
  rw [processNR_congr (t := owePoll pf s) nr (owePoll_ring s pf) (owePoll_eff s pf) (by rw [owePoll_win]) (by rw [owePoll_win]),
    owePoll_eq]
  rfl

/-- A REJ with an invalid N(R) does what an RR does (R322, R368). -/
theorem receiveREJ_invalid (pf : Bool) {nr : Seq}
    (hinvalid : ¬(nr - s.win.confirmNs).toNat ≤ (s.win.nextNs - s.win.confirmNs).toNat) :
    receiveREJ pf nr s = receiveRR pf nr s := by
  rw [receiveREJ, processNR_snd, owePoll_win]
  exact if_neg (by simpa using hinvalid)

/-- A REJ with a valid N(R) does what an RR does, and then Rewind (R322, R368). -/
theorem receiveREJ_valid (pf : Bool) {nr : Seq}
    (hvalid : (nr - s.win.confirmNs).toNat ≤ (s.win.nextNs - s.win.confirmNs).toNat) :
    receiveREJ pf nr s = rewind (receiveRR pf nr s) := by
  rw [receiveREJ, processNR_snd, owePoll_win]
  exact if_pos (decide_eq_true hvalid)

theorem rewind_eq (s : State) :
    rewind s =
      { s with
        ring := { s.ring with slots := s.ring.slots.map (fun x =>
          if x.state = .inFlight ∨ x.state = .awaitingAck then { x with state := .queued } else x) }
        win := { s.win with nextNs := s.win.confirmNs } } := by
  rw [rewind, markSlots_sent]
  rfl

/-- The keep-alive credit does not change what ProcessNR makes of the slots. -/
theorem processNR_credited_ring (nr : Seq) (s : State) : (processNR nr (credited s)).1.ring = (processNR nr s).1.ring :=
  processNR_ring_congr nr s (credited s) rfl rfl rfl rfl

/-- UA in the two states in which none is waited for (R408). -/
theorem rxUA_of_not_pending (h : s.fsm = .disconnected ∨ s.fsm = .connected) : rxUA s = s := by
  obtain h | h := h <;> simp only [rxUA, h]

end

/-! ### The statements -/

/-- Settles O33: `receiveI_inSeq` after the keep-alive credit. -/
theorem inSequenceIFrame : Obligations.InSequenceIFrame := by
  intro s pf nr hc hopen
  have hframe : frameI s.win.nextNr pf nr s = receiveI s.win.nextNr pf nr (credited s) := onFrame_whenConnected_yes hc hopen _
  refine congrArg Host.Outcome.next (hframe.trans ((receiveI_inSeq (credited s) pf nr).trans ?_))
  rw [processNR_credited_ring]
  rfl

/-- Settles O34: `receiveI_outOfSeq` after the keep-alive credit. -/
theorem outOfSequenceIFrame : Obligations.OutOfSequenceIFrame := by
  intro s ns pf nr hc hopen hns
  have hframe : frameI ns pf nr s = receiveI ns pf nr (credited s) := onFrame_whenConnected_yes hc hopen _
  exact congrArg Host.Outcome.next (hframe.trans (receiveI_outOfSeq (credited s) hns pf nr))

/-- Settles O35: `setPeerBusy_processNR_owePoll` for RR and RNR; a REJ is an RR that may end with Rewind. -/
theorem supervisoryFrames : Obligations.SupervisoryFrames := by
  intro s pf nr hc hopen hnil valid r w f c
  have hframe (k : State → State) : onFrame (noPayload (whenConnected k)) s = k (credited s) :=
    onFrame_noPayload_whenConnected_yes hc hopen hnil k
  have hcommon (busy : Bool) : setPeerBusy busy (processNR nr (owePoll pf (credited s))).1 =
      { s with ring := r, win := w, flag := f busy, ctr := c } := by
    rw [setPeerBusy_processNR_owePoll, processNR_credited_ring]
    rfl
  refine ⟨congrArg Host.Outcome.next ((hframe _).trans (hcommon false)),
    congrArg Host.Outcome.next ((hframe _).trans (hcommon true)),
    fun hinvalid => congrArg Host.Outcome.next ((hframe _).trans ?_),
    fun hvalid => congrArg Host.Outcome.next ((hframe _).trans ?_)⟩
  · exact (receiveREJ_invalid (s := credited s) pf hinvalid).trans (hcommon false)
  · have hconfirm : w.confirmNs = nr := if_pos hvalid
    rw [receiveREJ_valid (s := credited s) pf hvalid, receiveRR, hcommon, rewind_eq, ← hconfirm]

/-- Settles O41: after the first receipt (`inSequenceIFrame`) the frame is out of sequence (`outOfSequenceIFrame`). -/
theorem duplicateDeliveredOnce : Obligations.DuplicateDeliveredOnce := by
  rintro s _ pf nr hc hopen rfl
  have hpast : s.win.nextNr ≠ s.win.nextNr + 1 := by bv_omega
  refine ⟨_, _, inSequenceIFrame s pf nr hc hopen, outOfSequenceIFrame _ _ pf nr hc hopen hpast, rfl, ?_⟩
  simp only [Bool.not_false, Bool.or_true]

/-- Settles O36: `frmrTrigger_eq` after the keep-alive credit. -/
theorem frmrTriggers : Obligations.FrmrTriggers := by
  intro s pf nr kind h t
  have htrigger : frmrTrigger (credited s) = t := frmrTrigger_eq (credited s)
  have hreserved : onFrame frmrTrigger s = t := (onFrame_running _ s h).trans htrigger
  refine ⟨congrArg Host.Outcome.next hreserved, congrArg Host.Outcome.next hreserved, fun hcons => ?_⟩
  have hpayload (k : State → State) : onFrame (noPayload k) s = t := (onFrame_noPayload_cons h hcons k).trans htrigger
  simp only [List.forall_mem_cons]
  refine ⟨?_, ?_, ?_, ?_, ?_, ?_, List.forall_mem_nil _⟩
  all_goals exact congrArg Host.Outcome.next (hpayload _)

/-- Settles O37: the keep-alive credit is all that is left of the frame, and in UNINIT and while closing not even that
(`onFrame_not_running`). -/
theorem framesWithoutEffect : Obligations.FramesWithoutEffect := by
  intro s ns pf nr kind
  refine ⟨?_, fun hclosed => ?_⟩
  · intro h t
    refine ⟨?_, fun hoff => ?_, fun hoff hnil => ?_, fun hidle hnil => ?_⟩
    · exact congrArg Host.Outcome.next (onFrame_running id s h)
    · exact congrArg Host.Outcome.next ((onFrame_running _ s h).trans (whenConnected_no _ (credited s) hoff))
    · have hdropped (k : State → State) : onFrame (noPayload (whenConnected k)) s = t :=
        (onFrame_noPayload_nil h hnil _).trans (whenConnected_no k (credited s) hoff)
      simp only [List.forall_mem_cons]
      refine ⟨?_, ?_, ?_, List.forall_mem_nil _⟩
      all_goals exact congrArg Host.Outcome.next (hdropped _)
    · exact congrArg Host.Outcome.next ((onFrame_noPayload_nil h hnil rxUA).trans (rxUA_of_not_pending (s := credited s) hidle))
  · simp only [List.forall_mem_cons]
    refine ⟨?_, ?_, ?_, ?_, ?_, ?_, ?_, ?_, ?_, ?_, List.forall_mem_nil _⟩
    all_goals exact congrArg Host.Outcome.next (onFrame_not_running _ s hclosed)

end Sys2Proof.Machine

/-! ## The receipt of SABM, UA and DISC (R407–R409) -/

namespace Sys2Proof.Machine

section

/-! ### Slots put into a state -/

/-- `markSlots` with the predicate written as a proposition. -/
theorem State.markSlots_eq (s : State) {p : Slot → Bool} {C : Slot → Prop} [DecidablePred C] (hp : ∀ x, p x = true ↔ C x)
    (st : SlotState) :
    s.markSlots p st =
      { s with ring := { s.ring with slots := s.ring.slots.map (fun x => if C x then { x with state := st } else x) } } := by
  have hslot : (fun x => if p x then { x with state := st } else x : Slot → Slot) =
      fun x => if C x then { x with state := st } else x := funext fun x => if_congr (hp x) rfl rfl
  rw [State.markSlots, hslot]
  rfl

/-- Putting slots into the state that they and others were put into just before changes nothing. -/
theorem State.markSlots_absorb (s : State) {p q : Slot → Bool} (hqp : ∀ x, q x = true → p x = true) (st : SlotState) :
    (s.markSlots p st).markSlots q st = s.markSlots p st := by
  refine congrArg (fun l => { s with ring := { s.ring with slots := l } })
    (List.map_map.trans (List.map_congr_left fun x _ => ?_))
  by_cases hp : p x = true
  · simp only [Function.comp_apply, hp, if_true, ite_self]
  · simp only [Function.comp_apply, hp, mt (hqp x) hp, Bool.false_eq_true, if_false]

theorem Slot.isPending_of_isSent (x : Slot) (h : x.isSent = true) : x.isPending = true :=
  x.isPending_iff.mpr (.inr (x.isSent_iff.mp h))

/-- After FailPending no slot is left for ResetSeq to fail (R406, R410). -/
theorem failPending_markSlots_sent (s : State) : (failPending s).markSlots Slot.isSent .failed = failPending s :=
  congrArg bumpFailGen (s.markSlots_absorb Slot.isPending_of_isSent .failed)

/-! ### RxSABM, RxUA and RxDISC -/

variable {s : State}

/-- The slots that a SABM fails, and `fail_gen` (R407): FailPending in CONNECTED, the first loop of ResetSeq in every state. -/
theorem markSlots_sent_sabm (s : State) :
    (if s.fsm = .connected then failPending s else s).markSlots Slot.isSent .failed =
      { s with
        ring := { s.ring with slots := s.ring.slots.map (fun x =>
          if x.state = .inFlight ∨ x.state = .awaitingAck ∨ (s.fsm = .connected ∧ x.state = .queued)
          then { x with state := .failed } else x) }
        ctr := { s.ctr with failGen := if s.fsm = .connected then s.ctr.failGen + 1 else s.ctr.failGen } } := by
  by_cases hc : s.fsm = .connected
  · have hfails (x : Slot) : x.isPending = true ↔
        x.state = .inFlight ∨ x.state = .awaitingAck ∨ (s.fsm = .connected ∧ x.state = .queued) := by
      rw [Slot.isPending_iff, and_iff_right hc, or_comm, or_assoc]
    rw [if_pos hc, if_pos hc, failPending_markSlots_sent, failPending, s.markSlots_eq hfails]
    rfl
  · have hfails (x : Slot) : x.isSent = true ↔
        x.state = .inFlight ∨ x.state = .awaitingAck ∨ (s.fsm = .connected ∧ x.state = .queued) := by
      simp only [Slot.isSent_iff, hc, false_and, or_false]
    rw [if_neg hc, if_neg hc, s.markSlots_eq hfails]

theorem rxSABM_eq (s : State) :
    rxSABM s =
      { s with
        fsm := .connected
        ring := { s.ring with slots := s.ring.slots.map (fun x =>
          if x.state = .inFlight ∨ x.state = .awaitingAck ∨ (s.fsm = .connected ∧ x.state = .queued)
          then { x with state := .failed } else x) }
        win := ⟨0, 0, 0, 0⟩
        flag := { s.flag with peerBusy := false, rejSent := false, rejOwed := false, ackOwed := false, pollOwed := false,
                              frmrOwed := false, uaOwed := true, sabmPending := false, discPending := false,
                              uTimerRunning := false }
        ctr := { s.ctr with kaUnanswered := 0, failGen := if s.fsm = .connected then s.ctr.failGen + 1 else s.ctr.failGen }
        tim := { s.tim with lastTx := s.now } } := by
  rw [rxSABM, resetSeq, markSlots_sent_sabm]
  rfl

theorem rxUA_connecting (h : s.fsm = .connecting) : rxUA s = enterConnected (resetSeq s) := by simp only [rxUA, h]

theorem rxUA_disconnecting (h : s.fsm = .disconnecting) : rxUA s = enterDisconnected s := by simp only [rxUA, h]

theorem rxDISC_disconnected (h : s.fsm = .disconnected) : rxDISC s = oweUA s := by simp only [rxDISC, h]

/-- DISC in CONNECTING, CONNECTED and DISCONNECTING (R409). -/
theorem rxDISC_leaves (hsession : s.fsm ≠ .uninit) (h : s.fsm ≠ .disconnected) : rxDISC s = enterDisconnected (oweUA s) := by
  unfold rxDISC
  split
  · rfl
  · rfl
  · rfl
  · next huninit => exact absurd huninit hsession
  · next hdisconnected => exact absurd hdisconnected h

end

/-! ### The statements -/

/-- Settles O38: `rxSABM_eq` after the keep-alive credit. -/
theorem sabmReceived : Obligations.SabmReceived := by
  intro s hrun hnil
  have hframe : frameSABM s = rxSABM (credited s) := onFrame_noPayload_nil hrun hnil rxSABM
  exact congrArg Host.Outcome.next (hframe.trans (rxSABM_eq (credited s)))

/-- Settles O39: the branches of RxUA, with what ResetSeq and EnterConnected (`connect_eq`) and EnterDisconnected
(`enterDisconnected_eq`) do after the keep-alive credit. -/
theorem uaReceived : Obligations.UaReceived := by
  intro s hopen hnil
  have hframe (hsession : s.fsm ≠ .uninit) : frameUA s = rxUA (credited s) :=
    onFrame_noPayload_nil ⟨hsession, hopen⟩ hnil rxUA
  refine ⟨fun hidle => ?_, fun hconnecting => ?_, fun hdisconnecting => ?_⟩
  · have hsession : s.fsm ≠ .uninit := by obtain h | h := hidle <;> simp [h]
    exact congrArg Host.Outcome.next ((hframe hsession).trans (rxUA_of_not_pending (s := credited s) hidle))
  · have hua : rxUA (credited s) = enterConnected (resetSeq (credited s)) := rxUA_connecting hconnecting
    exact congrArg Host.Outcome.next ((hframe (by simp [hconnecting])).trans (hua.trans (connect_eq (credited s))))
  · have hua : rxUA (credited s) = enterDisconnected (credited s) := rxUA_disconnecting hdisconnecting
    exact congrArg Host.Outcome.next ((hframe (by simp [hdisconnecting])).trans (hua.trans (enterDisconnected_eq (credited s))))

/-- Settles O40: the branches of RxDISC, with what EnterDisconnected does (`enterDisconnected_eq`) once the UA is owed. -/
theorem discReceived : Obligations.DiscReceived := by
  intro s hrun hnil
  have hframe : frameDISC s = rxDISC (credited s) := onFrame_noPayload_nil hrun hnil rxDISC
  refine ⟨fun hdisconnected => ?_, fun hbusy => ?_⟩
  · exact congrArg Host.Outcome.next (hframe.trans (rxDISC_disconnected (s := credited s) hdisconnected))
  · have hdisc : rxDISC (credited s) = enterDisconnected (oweUA (credited s)) := rxDISC_leaves hrun.session hbusy
    exact congrArg Host.Outcome.next (hframe.trans (hdisc.trans (enterDisconnected_eq (oweUA (credited s)))))

end Sys2Proof.Machine

/-! ## The polled timers (R440–R444, R449) -/

namespace Sys2Proof.Machine

/-- The U timer runs and `retry_timeout` has elapsed since the selection of the SABM or DISC (R442, R447). -/
def State.UTimerDue (s : State) : Prop :=
  s.flag.uTimerRunning = true ∧ s.eff.retryTimeout.toNat ≤ (s.now - s.tim.uSentAt).toNat

/-- The U timer's repeat of the SABM or DISC (R442), in CONNECTING and DISCONNECTING: `uTimer_of_left` ties it to the model. -/
def repeatUnnumbered (s : State) : State :=
  { s with
    flag := { s.flag with
      uTimerRunning := false
      sabmPending := s.flag.sabmPending || decide (s.fsm = .connecting)
      discPending := s.flag.discPending || decide (s.fsm = .disconnecting) }
    ctr := { s.ctr with uRetriesLeft := s.ctr.uRetriesLeft - 1 } }

section

variable {s : State}

/-! ### UTimer -/

theorem State.uTimerDue_iff (s : State) :
    (s.flag.uTimerRunning && expired s.tim.uSentAt s.now s.eff.retryTimeout) = true ↔ s.UTimerDue := by
  rw [Bool.and_eq_true, expired_iff, State.UTimerDue]

theorem not_uTimerDue_of_stopped (h : s.flag.uTimerRunning = false) : ¬ s.UTimerDue := by
  rintro ⟨hruns, -⟩
  exact absurd (hruns.symm.trans h) (by decide)

theorem uTimer_of_not_due (h : ¬ s.UTimerDue) : uTimer s = s := if_neg (mt s.uTimerDue_iff.mp h)

theorem uTimer_of_none_left (h : s.UTimerDue) (hnone : s.ctr.uRetriesLeft = 0) : uTimer s = enterDisconnected s :=
  (if_pos (s.uTimerDue_iff.mpr h)).trans (if_pos hnone)

theorem uTimer_of_left (hfsm : s.fsm = .connecting ∨ s.fsm = .disconnecting) (h : s.UTimerDue)
    (hleft : s.ctr.uRetriesLeft ≠ 0) : uTimer s = repeatUnnumbered s := by
  refine ((if_pos (s.uTimerDue_iff.mpr h)).trans (if_neg hleft)).trans ?_
  obtain hconn | hdisc := hfsm
  · simp [State.modFlag, State.modCtr, repeatUnnumbered, hconn]
  · simp [State.modFlag, State.modCtr, repeatUnnumbered, hdisc]

theorem uTimer_cases (hfsm : s.fsm = .connecting ∨ s.fsm = .disconnecting) :
    uTimer s = s ∨ uTimer s = enterDisconnected s ∨ uTimer s = repeatUnnumbered s := by
  by_cases hdue : s.UTimerDue
  · by_cases hnone : s.ctr.uRetriesLeft = 0
    · exact .inr (.inl (uTimer_of_none_left hdue hnone))
    · exact .inr (.inr (uTimer_of_left hfsm hdue hnone))
  · exact .inl (uTimer_of_not_due hdue)

/-! ### TimerPhase -/

theorem timerPhase_of_waiting (h : s.fsm = .disconnected) (hwait : (s.now - s.tim.connBase).toNat < s.tim.connWait.toNat) :
    timerPhase s = s :=
  (timerPhase_disconnected s h).trans (if_neg (Nat.not_le_of_lt hwait))

/-- Everything TimerPhase can do to a state (R440). -/
theorem timerPhase_cases (s : State) :
    timerPhase s = s ∨ timerPhase s = enterConnecting s ∨ timerPhase s = enterDisconnected s ∨
      ((s.fsm = .connecting ∨ s.fsm = .disconnecting) ∧ timerPhase s = repeatUnnumbered s) := by
  cases hfsm : s.fsm with
  | uninit => exact .inl (timerPhase_uninit s hfsm)
  | disconnected => rw [timerPhase_disconnected s hfsm]; split_ifs <;> simp
  | connecting =>
    rw [timerPhase_unnumbered s (.inl hfsm)]
    obtain h | h | h := uTimer_cases (.inl hfsm) <;> simp [h]
  | disconnecting =>
    rw [timerPhase_unnumbered s (.inr hfsm)]
    obtain h | h | h := uTimer_cases (.inr hfsm) <;> simp [h]
  | connected => rw [timerPhase_connected s hfsm]; split_ifs <;> simp

/-- A SABM or DISC that waits to be sent has no timer to run out (R442). -/
theorem timerPhase_of_stopped (hfsm : s.fsm = .connecting ∨ s.fsm = .disconnecting) (h : s.flag.uTimerRunning = false) :
    timerPhase s = s :=
  (timerPhase_unnumbered s hfsm).trans (uTimer_of_not_due (not_uTimerDue_of_stopped h))

/-- The wait that EnterDisconnected starts is not over at once, as `retry_timeout` is not 0 (R405, R443). -/
theorem timerPhase_enterDisconnected (h : s.eff.retryTimeout ≠ 0) : timerPhase (enterDisconnected s) = enterDisconnected s := by
  have hpos : (s.now - s.now).toNat < s.eff.retryTimeout.toNat := by bv_omega
  exact timerPhase_of_waiting rfl hpos

end

/-! ### The statements -/

/-- Settles O42: whatever TimerPhase did, it left no timer that has expired at `now`. -/
theorem timersIdempotent : Obligations.TimersIdempotent := by
  intro s hretry
  obtain h | h | h | ⟨hfsm, h⟩ := timerPhase_cases s
  · rw [h, h]
  · rw [h]
    exact timerPhase_of_stopped (.inl rfl) rfl
  · rw [h]
    exact timerPhase_enterDisconnected hretry
  · rw [h]
    exact timerPhase_of_stopped (s := repeatUnnumbered s) hfsm rfl

/-- Settles O44: the branches of UTimer, with what EnterDisconnected does (`enterDisconnected_eq`). -/
theorem unnumberedRetry : Obligations.UnnumberedRetry := by
  intro s hfsm due
  rw [timerPhase_unnumbered s hfsm]
  refine ⟨fun hdue => ?_, fun hdue hleft => ?_, fun hdue hnone => ?_⟩
  · exact uTimer_of_not_due hdue
  · exact uTimer_of_left hfsm hdue hleft
  · exact (uTimer_of_none_left hdue hnone).trans (enterDisconnected_eq s)

/-- Settles O45: the two tests of CONNECTED, as IFrameExhausted (`State.iFrameExhausted_iff`) and KeepAliveLost
(`State.keepAliveLost_iff`) put them. -/
theorem peerLoss : Obligations.PeerLoss := by
  intro s hconn exhausted lost
  have htests : s.iFrameExhausted = true ∨ s.keepAliveLost = true ↔ exhausted ∨ lost :=
    or_congr s.iFrameExhausted_iff s.keepAliveLost_iff
  rw [timerPhase_connected s hconn]
  refine ⟨fun hslot hka => ?_, fun hends => ?_⟩
  · exact if_neg (mt htests.mp (not_or_intro hslot hka))
  · exact (if_pos (htests.mpr hends)).trans (enterDisconnected_eq s)

/-- Settles O43: the branches of TimerPhase in UNINIT and DISCONNECTED, with what EnterConnecting does
(`enterConnecting_eq`). -/
theorem periodicConnect : Obligations.PeriodicConnect := by
  intro s
  refine ⟨fun huninit => ?_, fun hdisc hwait => ?_, fun hdisc hover => ?_⟩
  · exact timerPhase_uninit s huninit
  · exact timerPhase_of_waiting hdisc hwait
  · exact ((timerPhase_disconnected s hdisc).trans (if_pos hover)).trans (enterConnecting_eq s)

end Sys2Proof.Machine

/-! ## What a command answers -/

namespace Sys2Proof.Machine

/-- A micro-step that ends in a response does what `AnsweredOnly` says. -/
theorem answers_of_next {o : Host.Outcome State Fault Refusal} {s : State} {res : Word} {dout : List Byte}
    (h : o = .next (respond res dout s)) : ∃ t, o = .next t ∧ AnsweredOnly s t res dout :=
  ⟨_, h, respond_answeredOnly res dout s⟩

/-- Only the block may differ: the sample, the schedule and every port are the same. -/
structure SameOutside (s t : State) : Prop where
  inputs : SameInputs s t
  ports : ∀ p, t.port? p = s.port? p

theorem SameOutside.refl (s : State) : SameOutside s s := ⟨.refl s, fun _ => rfl⟩

theorem SameOutside.trans {s t u : State} (h : SameOutside s t) (k : SameOutside t u) : SameOutside s u :=
  ⟨h.inputs.trans k.inputs, fun p => (k.ports p).trans (h.ports p)⟩

theorem SameOutside.of_fields {s t : State} (hnow : t.now = s.now := by simp) (hport : t.port = s.port := by simp)
    (hticks : t.ticks = s.ticks := by simp) (htxp : t.txp = s.txp := by simp) (hrxp : t.rxp = s.rxp := by simp)
    (happs : t.apps = s.apps := by simp) : SameOutside s t :=
  ⟨⟨hnow, hport, hticks⟩, fun p => by cases p <;> simp [State.port?, htxp, hrxp, happs]⟩

/-- A micro-step that changes the block and leaves its port busy. -/
theorem SameOutside.setCmd {s u : State} (h : SameOutside s u) (c : Cmd) :
    SameBlock u (setCmd c u) ∧ SameInputs s (setCmd c u) ∧ NowBusy c s (setCmd c u) := by
  obtain ⟨hothers, hbusy⟩ := setCmd_nowBusy c u
  have hport : u.port = s.port := h.inputs.port
  rw [hport] at hothers hbusy
  exact ⟨u.modPort_sameBlock _ _, h.inputs.trans (u.modPort_sameInputs _ _),
    fun p hp => (hothers p hp).trans (h.ports p), fun q hq => hbusy q ((h.ports s.port).trans hq)⟩

/-! ### The checks that commands have in common (R470) -/

theorem inSession_uninit {s : State} (h : s.fsm = .uninit) (k : State → State) : inSession k s = refuse Res.invalidData s :=
  if_pos h

theorem inSession_session {s : State} (h : s.fsm ≠ .uninit) (k : State → State) : inSession k s = k s := if_neg h

theorem PortId.isApp_eq_false {p : PortId} (h : ∀ a, p ≠ .app a) : p.isApp = false := by
  cases p with
  | app n => exact absurd rfl (h n)
  | txp => rfl
  | rxp => rfl

section

variable {s : State}

/-! ### INIT (R471) -/

theorem cmdInit_busy (h : s.fsm ≠ .uninit ∨ s.closing = true) : cmdInit s = refuse Res.failed s := if_pos h

theorem cmdInit_illegal (h : s.cfg.legal s.params = false) : cmdInit s = refuse Res.failed s := by
  rw [cmdInit, if_pos h, ite_self]

theorem cmdInit_legal (huninit : s.fsm = .uninit) (hopen : s.closing = false) (h : s.cfg.legal s.params = true) :
    cmdInit s = respond Res.success [] (freshSession s) := by
  simp [cmdInit, huninit, hopen, h]

/-! ### CLOSE (R472, R473) -/

theorem cmdClose_closing (hsession : s.fsm ≠ .uninit) (h : s.closing = true) : cmdClose s = refuse Res.failed s :=
  (inSession_session hsession _).trans (if_pos h)

theorem cmdClose_open (hsession : s.fsm ≠ .uninit) (h : s.closing = false) :
    cmdClose s = setCmd .close (bumpFailGen { s with closing := true }) := by
  rw [cmdClose, inSession_session hsession, h]
  rfl

theorem closePhase2_held (h : s.pumping = true) : closePhase2 s = s := if_pos h

theorem closePhase2_free (h : ¬ s.pumping = true) : closePhase2 s = respond Res.success [] (endSession (closeEvents s)) :=
  if_neg h

/-! ### DISCONNECT (R475) -/

theorem cmdDisconnect_closing (hsession : s.fsm ≠ .uninit) (h : s.closing = true) :
    cmdDisconnect s = refuse Res.failed s :=
  (inSession_session hsession _).trans (if_pos h)

theorem cmdDisconnect_connected (hopen : s.closing = false) (h : s.fsm = .connected) :
    cmdDisconnect s = respond Res.success [] (enterDisconnecting s) := by
  simp [cmdDisconnect, inSession, hopen, h]

theorem cmdDisconnect_disconnected (hopen : s.closing = false) (h : s.fsm = .disconnected) :
    cmdDisconnect s = respond Res.success [] s := by
  simp [cmdDisconnect, inSession, hopen, h]

theorem cmdDisconnect_between (hopen : s.closing = false) (h : s.fsm = .connecting ∨ s.fsm = .disconnecting) :
    cmdDisconnect s = refuse Res.busy s := by
  obtain h | h := h <;> simp [cmdDisconnect, inSession, hopen, h]

/-! ### TX_GET (R476) -/

theorem cmdTxGet_wrongPort (h : s.port ≠ .txp) (n : BitVec 16) : cmdTxGet n s = refuse Res.invalidData s := if_pos h

theorem cmdTxGet_uninit (h : s.fsm = .uninit) (n : BitVec 16) : cmdTxGet n s = refuse Res.invalidData s := by
  rw [cmdTxGet, inSession_uninit h, ite_self]

theorem cmdTxGet_closing (hport : s.port = .txp) (hsession : s.fsm ≠ .uninit) (h : s.closing = true) (n : BitVec 16) :
    cmdTxGet n s = respond 0 [] s := by
  simp [cmdTxGet, inSession, hport, hsession, h]

theorem cmdTxGet_running (hport : s.port = .txp) (h : Running s) (n : BitVec 16) :
    cmdTxGet n s = setCmd (.txGet n [] false) (deliverCompletions (timerPhase s)) := by
  simp [cmdTxGet, inSession, hport, h.session, h.notClosing]

/-! ### RX_PUT (R477) -/

theorem cmdRxPut_wrongPort (h : s.port ≠ .rxp) (din : List Byte) : cmdRxPut din s = refuse Res.invalidData s := if_pos h

theorem cmdRxPut_uninit (h : s.fsm = .uninit) (din : List Byte) : cmdRxPut din s = refuse Res.invalidData s := by
  rw [cmdRxPut, inSession_uninit h, ite_self]

theorem cmdRxPut_nothingToDo (hport : s.port = .rxp) (hsession : s.fsm ≠ .uninit) {din : List Byte}
    (h : s.closing = true ∨ din = []) : cmdRxPut din s = respond Res.success [] s := by
  simp [cmdRxPut, inSession, hport, hsession, h]

theorem cmdRxPut_bytes (hport : s.port = .rxp) (h : Running s) {din : List Byte} (hdin : din ≠ []) :
    cmdRxPut din s = setCmd (.rxPut din) s := by
  simp [cmdRxPut, inSession, hport, h.session, h.notClosing, hdin]

theorem rxPutStep_closing (h : s.closing = true) (b : Byte) (more : List Byte) :
    rxPutStep (b :: more) s = respond Res.success [] s := if_pos h

/-! ### SEND_PACKET (R478, R479) -/

theorem cmdSendPacket_wrongPort (h : ∀ a, s.port ≠ .app a) (payload : List Byte) :
    cmdSendPacket payload s = refuse Res.invalidData s := if_pos (PortId.isApp_eq_false h)

theorem cmdSendPacket_uninit (h : s.fsm = .uninit) (payload : List Byte) :
    cmdSendPacket payload s = refuse Res.invalidData s := by
  rw [cmdSendPacket, inSession_uninit h, ite_self]

section

variable {a : Nat} (hport : s.port = .app a) (hsession : s.fsm ≠ .uninit) {payload : List Byte}

include hport hsession

theorem cmdSendPacket_closing (h : s.closing = true) : cmdSendPacket payload s = refuse Res.failed s := by
  simp [cmdSendPacket, inSession, hport, PortId.isApp, hsession, h]

theorem cmdSendPacket_tooLarge (hopen : s.closing = false) (h : s.eff.mtu.toNat < payload.length) :
    cmdSendPacket payload s = refuse Res.dataTooLarge s := by
  simp [cmdSendPacket, inSession, hport, PortId.isApp, hsession, hopen, h]

theorem cmdSendPacket_held (hopen : s.closing = false) (h : payload.length ≤ s.eff.mtu.toNat) :
    cmdSendPacket payload s =
      setCmd (.sendPacket payload s.now s.ctr.failGen) (if s.fsm = .disconnected then enterConnecting s else s) := by
  simp [cmdSendPacket, inSession, hport, PortId.isApp, hsession, hopen, Nat.not_lt.mpr h]

end

section

variable {payload : List Byte} {tIssue : Time} {gen : Word}

theorem sendPacketStep_cancelled (h : s.closing = true ∨ s.fsm = .uninit ∨ s.ctr.failGen ≠ gen) :
    sendPacketStep payload tIssue gen s = refuse Res.failed s := if_pos h

variable (hgoes : ¬(s.closing = true ∨ s.fsm = .uninit ∨ s.ctr.failGen ≠ gen))

include hgoes

theorem sendPacketStep_room (h : s.ring.count.toNat < s.w ∧ s.admission = true) :
    sendPacketStep payload tIssue gen s = respond Res.success [] (enqueue payload s) :=
  (if_neg hgoes).trans (if_pos h)

variable (hfull : ¬(s.ring.count.toNat < s.w ∧ s.admission = true))

include hfull

theorem sendPacketStep_late (h : expired tIssue s.now s.eff.sendTimeout = true) :
    sendPacketStep payload tIssue gen s = refuse Res.timeout s :=
  ((if_neg hgoes).trans (if_neg hfull)).trans (if_pos h)

theorem sendPacketStep_waits (h : ¬ expired tIssue s.now s.eff.sendTimeout = true) :
    sendPacketStep payload tIssue gen s = s :=
  ((if_neg hgoes).trans (if_neg hfull)).trans (if_neg h)

end

end

/-! ### A busy port and its next micro-step -/

/-- A busy port whose command is known goes on with it (R46, R113). -/
theorem RunsNext.step_cmd {s : State} {p : PortId} {now : Time} {rest : List Tick} {q : Port} {c : Cmd}
    (hrun : RunsNext p now rest q s) (hcmd : q.cmd = c) (hbusy : c ≠ .idle) :
    step s = .next (microStep c (sample p now rest s)) := by
  subst hcmd
  exact hrun.step_busy hbusy

end Sys2Proof.Machine

/-! ## CLOSE, DISCONNECT and the queries (R472–R475, R480, R481) -/

namespace Sys2Proof.Machine

/-- Settles O10: `cmdClose_closing` and `cmdClose_open`. -/
theorem closePhaseOne : Obligations.ClosePhaseOne := by
  intro s hsession
  refine ⟨fun hclosing => ?_, fun hopen => ?_⟩
  · exact answers_of_next (congrArg _ (cmdClose_closing hsession hclosing))
  · have hblock : SameOutside s (bumpFailGen { s with closing := true }) := .of_fields rfl rfl rfl rfl rfl rfl
    exact ⟨_, congrArg Host.Outcome.next (cmdClose_open hsession hopen), hblock.setCmd .close⟩

/-- Settles O13: the cases of `cmdDisconnect`, with what EnterDisconnecting does (`enterDisconnecting_eq`). -/
theorem disconnectCommand : Obligations.DisconnectCommand := by
  intro s
  refine ⟨fun huninit => ?_, fun hsession hclosing => ?_, fun hopen hconn => ?_, fun hopen hdisc => ?_, fun hopen hbetween => ?_⟩
  · exact answers_of_next (congrArg _ (inSession_uninit huninit _))
  · exact answers_of_next (congrArg _ (cmdDisconnect_closing hsession hclosing))
  · rw [← enterDisconnecting_eq]
    exact answers_of_next (congrArg _ (cmdDisconnect_connected hopen hconn))
  · exact answers_of_next (congrArg _ (cmdDisconnect_disconnected hopen hdisc))
  · exact answers_of_next (congrArg _ (cmdDisconnect_between hopen hbetween))

/-- Settles O12: in UNINIT the three end at the session check, and in a session each is one response. -/
theorem sessionQueries : Obligations.SessionQueries := by
  intro s ms
  refine ⟨fun huninit i hi => ?_, fun hsession => ⟨fun hconn => ?_, fun hconn => ?_, ?_, ?_⟩⟩
  · simp only [List.mem_cons, List.not_mem_nil, or_false] at hi
    obtain rfl | rfl | rfl := hi
    all_goals exact answers_of_next (congrArg _ (inSession_uninit huninit _))
  · have h : cmdStatus s = respond Res.success [] s := by rw [cmdStatus, inSession_session hsession, if_pos hconn]
    exact answers_of_next (congrArg _ h)
  · have h : cmdStatus s = respond Res.failed [] s := by rw [cmdStatus, inSession_session hsession, if_neg hconn]
    exact answers_of_next (congrArg _ h)
  · rw [BitVec.ofNat_toNat]
    exact answers_of_next (congrArg _ (inSession_session hsession _))
  · exact answers_of_next (congrArg _ (inSession_session hsession _))

/-- Settles O14: the checks of R470 in their order, the port, the session, `closing`. -/
theorem commandsTurnedAway : Obligations.CommandsTurnedAway := by
  intro s n bytes ms
  refine ⟨fun hport => ?_, fun hport => ?_, fun hport => ?_, fun huninit i hi => ?_, fun hsession hclosing => ?_⟩
  · exact answers_of_next (congrArg _ (cmdTxGet_wrongPort hport n))
  · exact answers_of_next (congrArg _ (cmdRxPut_wrongPort hport bytes))
  · exact answers_of_next (congrArg _ (cmdSendPacket_wrongPort hport bytes))
  · have checked (k : State → State) : inSession k s = refuse Res.invalidData s := inSession_uninit huninit k
    simp only [List.mem_cons, List.not_mem_nil, or_false] at hi
    obtain rfl | rfl | rfl | rfl | rfl | rfl | rfl | rfl := hi
    · exact answers_of_next (congrArg _ (checked _))
    · exact answers_of_next (congrArg _ (checked _))
    · exact answers_of_next (congrArg _ (checked _))
    · exact answers_of_next (congrArg _ (cmdTxGet_uninit huninit n))
    · exact answers_of_next (congrArg _ (cmdRxPut_uninit huninit bytes))
    · exact answers_of_next (congrArg _ (cmdSendPacket_uninit huninit bytes))
    · exact answers_of_next (congrArg _ (checked _))
    · exact answers_of_next (congrArg _ (checked _))
  · refine ⟨fun hport => ?_, fun hport => ?_, fun a hport => ?_, ?_, ?_⟩
    · exact answers_of_next (congrArg _ (cmdTxGet_closing hport hsession hclosing n))
    · exact answers_of_next (congrArg _ (cmdRxPut_nothingToDo hport hsession (.inl hclosing)))
    · exact answers_of_next (congrArg _ (cmdSendPacket_closing hport hsession hclosing))
    · exact answers_of_next (congrArg _ (cmdDisconnect_closing hsession hclosing))
    · exact answers_of_next (congrArg _ (cmdInit_busy (.inl hsession)))

/-! ### CLOSE, phase 2 -/

/-- A list of events, emitted one after another to one channel. -/
theorem foldl_emit {α : Type} (p : PortId) (ev : α → Event) (l : List α) (s : State) :
    l.foldl (fun t i => emit p (ev i) t) s = s.modPort p (fun q => { q with events := q.events ++ l.map ev }) := by
  induction l generalizing s with
  | nil =>
    cases p with
    | txp => simp [State.modPort]
    | rxp => simp [State.modPort]
    | app n => simp [State.modPort, ← Function.id_def, List.modify_id]
  | cons i l ih =>
    rw [List.foldl_cons, ih]
    cases p <;> simp [emit, State.modPort, List.modify_modify_eq, Function.comp_def]

theorem closeEvents_eq (s : State) :
    closeEvents s = s.modPort s.port (fun q => { q with events := q.events ++ s.ringOrder.map s.sentEvent }) :=
  foldl_emit _ _ _ _

theorem endSession_modPort (s : State) (p : PortId) (f : Port → Port) :
    endSession (s.modPort p f) = (endSession s).modPort p f := by
  cases p <;> rfl

/-- Settles O11: `closePhase2_held` and `closePhase2_free`, with the events of the slots in ring order (`closeEvents_eq`). -/
theorem closePhaseTwo : Obligations.ClosePhaseTwo := by
  intro s p now rest q hrun hcmd s1
  have hstep : step s = .next (closePhase2 s1) := hrun.step_cmd hcmd (by decide)
  refine ⟨fun hpump => ?_, fun htx hrx => ?_⟩
  · exact hstep.trans (congrArg _ (closePhase2_held (s1.pumping_iff.mpr hpump)))
  · have hfree : ¬ s1.pumping = true := by
      rw [s1.pumping_iff]
      rintro (⟨n, d, e, h⟩ | ⟨d, h⟩)
      · exact htx n d e h
      · exact hrx d h
    refine answers_of_next (hstep.trans (congrArg _ ?_))
    rw [closePhase2_free hfree, closeEvents_eq, endSession_modPort]
    rfl

end Sys2Proof.Machine

/-! ## INIT and BUFFER_SIZE (R471, R482, R485) -/

namespace Sys2Proof.Machine

/-- The legal CRC codes, with the code INIT latches and the length (R200, R207). -/
def crcCodes : List (Byte × Byte × Nat) :=
  [(0x00, 0x10, 2), (0x08, 0x08, 1), (0x10, 0x10, 2), (0x20, 0x20, 4), (0xFF, 0xFF, 0)]

/-- The table of codes lists what `crcKindOf` and `crcResolve` compute. -/
theorem mem_crcCodes {code resolved : Byte} {len : Nat} :
    (code, resolved, len) ∈ crcCodes ↔
      ∃ kind, crcKindOf code = some kind ∧ resolved = crcResolve code ∧ len = kind.len := by
  unfold crcKindOf crcResolve
  split_ifs <;> simp_all [crcCodes, CrcKind.len]

theorem crcKindOf_eq_none {code : Byte} (h : ∀ resolved len, (code, resolved, len) ∉ crcCodes) : crcKindOf code = none := by
  cases hkind : crcKindOf code with
  | none => rfl
  | some kind => exact absurd (mem_crcCodes.mpr ⟨kind, hkind, rfl, rfl⟩) (h _ _)

/-- The table of lengths is the table of codes without the latched code. -/
theorem mem_crcLens {code : Byte} {len : Nat} :
    (code, len) ∈ ([(0x00, 2), (0x08, 1), (0x10, 2), (0x20, 4), (0xFF, 0)] : List (Byte × Nat)) ↔
      ∃ resolved, (code, resolved, len) ∈ crcCodes := by
  simp [crcCodes, exists_or]

/-- The size of R485 for a legal code. -/
theorem bufferSizeByMtu_some (p : Params) (m w : Nat) {code : Byte} {kind : CrcKind} (h : crcKindOf code = some kind) :
    bufferSizeByMtu p m w code =
      some (w * (m + 2 + kind.len + p.slotOverhead) + (m + 2 + kind.len) + p.fixedOverhead) := by
  rw [bufferSizeByMtu, h]
  rfl

theorem bufferSizeByMtu_none (p : Params) (m w : Nat) {code : Byte} (h : crcKindOf code = none) :
    bufferSizeByMtu p m w code = none := by
  rw [bufferSizeByMtu, h]
  rfl

/-! ### INIT -/

/-- The checks of INIT for a legal CRC code (R471). -/
theorem Cfg.legal_iff {p : Params} {c : Cfg} {kind : CrcKind} (h : crcKindOf c.crc = some kind) :
    c.legal p = true ↔
      1 ≤ c.mtu.toNat ∧ c.mtu.toNat ≤ p.mtuMax ∧ 1 ≤ c.window.toNat ∧ c.initRetryTimeout ≠ 0 ∧
      c.window.toNat * (c.mtu.toNat + 2 + kind.len + p.slotOverhead) + (c.mtu.toNat + 2 + kind.len) + p.fixedOverhead ≤
        p.bufBytes := by
  simp [Cfg.legal, bufferSizeByMtu_some p _ _ h, h, and_assoc]

/-- Settles O9: INIT fails where `Cfg.legal` does (`Cfg.legal_iff`), and else starts the fresh session. -/
theorem initCommand : Obligations.InitCommand := by
  intro s c rt codes size
  refine ⟨fun hfails => ?_, fun code len hcode huninit hopen hmtu hmax hwindow hretry hsize => ?_⟩
  · have hrefused : cmdInit s = refuse Res.failed s := by
      by_cases hbusy : s.fsm ≠ .uninit ∨ s.closing = true
      · exact cmdInit_busy hbusy
      · refine cmdInit_illegal (Bool.eq_false_iff.mpr fun hlegal => ?_)
        obtain ⟨-, -, -, hcrc, -⟩ := Cfg.legal_spec hlegal
        obtain ⟨kind, hkind⟩ := Option.isSome_iff_exists.mp hcrc
        obtain ⟨hmtu, hmax, hwindow, hretry, hsize⟩ := (Cfg.legal_iff hkind).mp hlegal
        obtain h | h | h | h | h | h | h | ⟨code, len, hmem, h⟩ := hfails
        · exact hbusy (.inl h)
        · exact hbusy (.inr h)
        · exact absurd hmtu (Nat.not_le.mpr h)
        · exact absurd hmax (Nat.not_le.mpr h)
        · exact absurd hwindow (Nat.not_le.mpr h)
        · exact absurd (mem_crcCodes.mpr ⟨kind, hkind, rfl, rfl⟩) (h _ _)
        · exact hretry h
        · obtain ⟨kind', hkind', -, rfl⟩ := mem_crcCodes.mp hmem
          cases hkind.symm.trans hkind'
          exact absurd hsize (Nat.not_le.mpr h)
    exact answers_of_next (congrArg _ hrefused)
  · obtain ⟨kind, hkind, rfl, rfl⟩ := mem_crcCodes.mp hcode
    have hlegal : s.cfg.legal s.params = true := (Cfg.legal_iff hkind).mpr ⟨hmtu, hmax, hwindow, hretry, hsize⟩
    have hlen : kind.len = ((crcKindOf s.cfg.crc).getD .none).len := by rw [hkind, Option.getD_some]
    rw [hlen]
    exact answers_of_next (congrArg _ (cmdInit_legal huninit hopen hlegal))

/-! ### BUFFER_SIZE -/

theorem bufferSizeRes_illegal (p : Params) {mtu : BitVec 16} {window crc : Byte}
    (h : mtu.toNat < 1 ∨ window.toNat < 1 ∨ 7 < window.toNat ∨ crcKindOf crc = none) :
    bufferSizeRes p mtu window crc = Res.invalidData := by
  by_cases hargs : mtu.toNat < 1 ∨ window.toNat < 1 ∨ 7 < window.toNat
  · exact if_pos hargs
  · have hcrc : crcKindOf crc = none := by tauto
    rw [bufferSizeRes, bufferSizeByMtu_none p _ _ hcrc, if_neg hargs]

theorem bufferSizeRes_legal (p : Params) {mtu : BitVec 16} {window crc : Byte} {n : Nat} (hmtu : 1 ≤ mtu.toNat)
    (hone : 1 ≤ window.toNat) (hseven : window.toNat ≤ 7) (hsize : bufferSizeByMtu p mtu.toNat window.toNat crc = some n) :
    bufferSizeRes p mtu window crc = if n ≤ 2 ^ 31 - 1 then BitVec.ofNat 32 n else Res.dataTooLarge := by
  rw [bufferSizeRes, if_neg (by omega), hsize]
  simp only [← Nat.not_le, ite_not]

theorem cmdBufferSize_of_res {s : State} {mtu : BitVec 16} {window crc : Byte} {res : Word}
    (h : bufferSizeRes s.params mtu window crc = res) : cmdBufferSize mtu window crc s = respond res [] s := by
  rw [cmdBufferSize, h]

/-- Settles O48: `bufferSizeRes_illegal` and `bufferSizeRes_legal`. -/
theorem bufferSizeCommand : Obligations.BufferSizeCommand := by
  intro s mtu window crc lens size
  refine ⟨fun hillegal => ?_, fun len hlen hmtu hone hseven => ?_⟩
  · have hres : bufferSizeRes s.params mtu window crc = Res.invalidData := by
      refine bufferSizeRes_illegal _ (hillegal.imp_right (.imp_right (.imp_right fun hnone => ?_)))
      exact crcKindOf_eq_none fun resolved len hmem => hnone len (mem_crcLens.mpr ⟨resolved, hmem⟩)
    exact answers_of_next (congrArg _ (cmdBufferSize_of_res hres))
  · obtain ⟨resolved, hmem⟩ := mem_crcLens.mp hlen
    obtain ⟨kind, hkind, -, rfl⟩ := mem_crcCodes.mp hmem
    have hres := bufferSizeRes_legal s.params hmtu hone hseven (bufferSizeByMtu_some _ _ _ hkind)
    exact answers_of_next (congrArg _ (cmdBufferSize_of_res hres))

end Sys2Proof.Machine

/-! ## Idle ports and host procedures (R46, R147, R490–R492) -/

namespace Sys2Proof.Machine

theorem sample_port? (p : PortId) (now : Time) (rest : List Tick) (s : State) (p' : PortId) :
    (sample p now rest s).port? p' = s.port? p' := by
  cases p' <;> rfl

section

variable {s : State} {p : PortId} {now : Time} {rest : List Tick} {q : Port} (hrun : RunsNext p now rest q s)
  (hidle : q.cmd = .idle)

include hrun hidle

/-- A host procedure goes on at its idle port (R147). -/
theorem RunsNext.step_proc {pr : Proc} (hproc : q.proc = some pr) :
    step s = .next (procStep pr q.reply (sample p now rest s)) := by
  rw [hrun.step_eq, runPort, if_neg (not_not.mpr hidle), hproc]

/-- An idle port accepts what waits there, or has nothing to do (R470). -/
theorem RunsNext.step_accept (hproc : q.proc = none) : step s = accept q (sample p now rest s) := by
  rw [hrun.step_eq, runPort, if_neg (not_not.mpr hidle), hproc]

/-- What waits at the head of the queue is taken from it and run (R470). -/
theorem RunsNext.step_exec (hproc : q.proc = none) {op : HostOp} {l : List HostOp} (hqueue : q.queue = op :: l) {i : Instr}
    (hop : decodeOp op = some i) :
    step s = exec i ((sample p now rest s).modPort p (fun q => { q with queue := l })) := by
  have hpop : popQueue (sample p now rest s) = (sample p now rest s).modPort p (fun q => { q with queue := l }) :=
    State.modPort_congr ((sample_port? p now rest s p).trans hrun.port) (by rw [hqueue, List.tail_cons])
  rw [hrun.step_accept hidle hproc, accept, hqueue, ← hpop]
  simp only [hop]

end

/-- Settles O6: an idle port runs what waits there (`RunsNext.step_exec`), a busy one its command (`RunsNext.step_busy`). -/
theorem stepRunsDecoded : Obligations.StepRunsDecoded := by
  refine ⟨?_, fun s hticks => ?_, fun s p now rest q hrun hidle hproc hqueue => ?_, fun s p now rest q hrun hbusy => ?_⟩
  · intro s p now rest q l hrun hidle hproc s1
    refine ⟨fun r i hqueue hdecode => ?_, fun ws hqueue => ?_, fun rs hqueue => ?_, fun b hqueue => ?_⟩
    · exact hrun.step_exec hidle hproc hqueue (by rw [decodeOp, hdecode])
    · exact hrun.step_exec hidle hproc hqueue rfl
    · exact hrun.step_exec hidle hproc hqueue rfl
    · exact hrun.step_exec hidle hproc hqueue rfl
  · rw [step, hticks]
  · rw [hrun.step_accept hidle hproc, accept, hqueue]
    rfl
  · exact hrun.step_busy hbusy

/-- A host procedure starts at its port, and nothing else changes (R147). -/
theorem setProc_starts (pr : Proc) (s : State) :
    SameBlock s (setProc pr s) ∧ SameInputs s (setProc pr s) ∧ SameOtherPorts s.port s (setProc pr s) ∧
      ∀ q, s.port? s.port = some q → (setProc pr s).port? s.port = some { q with proc := some pr, reply := none } :=
  ⟨s.modPort_sameBlock _ _, s.modPort_sameInputs _ _, s.modPort_sameOtherPorts _ _,
    fun q hq => by rw [setProc, s.port?_modPort_same, hq, Option.map_some]⟩

section

variable (s : State)

theorem runTxReply_none {r : Response} (h : r.res.toInt ≤ 0) (total : Nat) (writes : List Word) :
    runTxReply total writes r s = endCount total s := if_pos h

theorem runTxReply_bytes {r : Response} (h : 0 < r.res.toInt) (total : Nat) (writes : List Word) :
    runTxReply total writes r s = setProc (.runTxWrite total writes r.dout) s := if_neg (Int.not_le.mpr h)

section

variable (total : Nat) {w : Word} (ws : List Word) {bytes : List Byte}

theorem runTxCall_refused (h : w.toInt ≤ 0) : runTxCall total (w :: ws) bytes s = endCount total s := if_pos h

theorem runTxCall_more (h : 0 < w.toInt) (hmore : bytes.drop w.toNat ≠ []) :
    runTxCall total (w :: ws) bytes s = setProc (.runTxWrite (total + w.toNat) ws (bytes.drop w.toNat)) s :=
  (if_neg (Int.not_le.mpr h)).trans (if_neg hmore)

theorem runTxCall_done (h : 0 < w.toInt) (hdone : bytes.drop w.toNat = []) :
    runTxCall total (w :: ws) bytes s = setProc (.runTxGet (total + w.toNat) ws) s :=
  (if_neg (Int.not_le.mpr h)).trans (if_pos hdone)

end

theorem runRxCall_none (total : Nat) (rs : List (List Byte)) : runRxCall total ([] :: rs) s = endCount total s := rfl

theorem runRxCall_bytes (total : Nat) {bytes : List Byte} (rs : List (List Byte)) (hsome : bytes ≠ [])
    (hlen : bytes.length ≤ 4) :
    runRxCall total (bytes :: rs) s = cmdRxPut bytes (setProc (.runRxWait total rs bytes.length) s) := by
  simp [runRxCall, List.take_of_length_le hlen, hsome]

section

variable {buf : List Byte} {m : Word} {sent k : Nat} {r : Response}

theorem sendFragment_done (h : buf.length ≤ sent) : sendFragment buf m sent s = endCount sent s := if_pos h

theorem sendFragment_next (h : sent < buf.length) (hm : 0 ≤ m.toInt) :
    sendFragment buf m sent s =
      cmdSendPacket ((buf.drop sent).take (min m.toNat (buf.length - sent)))
        (setProc (.sendWait buf m sent (min m.toNat (buf.length - sent))) s) :=
  (if_neg (Nat.not_le.mpr h)).trans (if_neg (Int.not_lt.mpr hm))

theorem sendReply_success (h : r.res = 0) : sendReply buf m sent k r s = setProc (.sendLoop buf m (sent + k)) s := if_pos h

theorem sendReply_code (h : r.res ≠ 0) (hnone : sent = 0) (hcode : r.res ≠ -2) :
    sendReply buf m sent k r s = endProc r.res s :=
  (if_neg h).trans (if_pos ⟨hnone, hcode⟩)

theorem sendReply_count (h : r.res ≠ 0) (hcount : sent ≠ 0 ∨ r.res = -2) :
    sendReply buf m sent k r s = endCount sent s :=
  (if_neg h).trans (if_neg fun ⟨hnone, hcode⟩ => hcount.elim (· hnone) hcode)

end

end

/-- Settles O49: RUN_TX starts (`setProc_starts`), and its steps are those of `procStep`. -/
theorem runTxLoop : Obligations.RunTxLoop := by
  refine ⟨fun s ws => ⟨_, rfl, setProc_starts _ s⟩, ?_⟩
  intro s p now rest q hrun hidle s1 goes ends
  refine ⟨fun total ws hproc => ?_, fun total ws r hproc hreply => ?_, fun total w ws bytes hproc => ?_⟩
  · exact hrun.step_proc hidle hproc
  · have hstep : step s = .next (runTxReply total ws r s1) := by rw [hrun.step_proc hidle hproc, hreply]; rfl
    refine ⟨fun hnone => ?_, fun hbytes => ?_⟩
    · exact hstep.trans (congrArg _ (runTxReply_none s1 hnone total ws))
    · exact hstep.trans (congrArg _ (runTxReply_bytes s1 hbytes total ws))
  · have hstep : step s = .next (runTxCall total (w :: ws) bytes s1) := hrun.step_proc hidle hproc
    refine ⟨fun hrefused => ?_, fun hw hmore => ?_, fun hw hdone => ?_⟩
    · exact hstep.trans (congrArg _ (runTxCall_refused s1 total ws hrefused))
    · exact hstep.trans (congrArg _ (runTxCall_more s1 total ws hw hmore))
    · exact hstep.trans (congrArg _ (runTxCall_done s1 total ws hw hdone))

/-- Settles O50: RUN_RX starts (`setProc_starts`), and its steps are those of `procStep`. -/
theorem runRxLoop : Obligations.RunRxLoop := by
  refine ⟨fun s rs => ⟨_, rfl, setProc_starts _ s⟩, ?_⟩
  intro s p now rest q hrun hidle s1 goes
  refine ⟨fun total rs hproc => ?_, fun total bytes rs hproc hsome hlen => ?_, fun total rs n r hproc hreply => ?_⟩
  · exact (hrun.step_proc hidle hproc).trans (congrArg _ (runRxCall_none s1 total rs))
  · exact (hrun.step_proc hidle hproc).trans (congrArg _ (runRxCall_bytes s1 total rs hsome hlen))
  · rw [hrun.step_proc hidle hproc, hreply]
    rfl

/-- Settles O51: SEND starts (`setProc_starts`), and its steps are those of `procStep`. -/
theorem sendLoop : Obligations.SendLoop := by
  refine ⟨fun s buf => ⟨_, rfl, setProc_starts _ s⟩, ?_⟩
  intro s p now rest q hrun hidle s1 goes ends
  refine ⟨fun buf hproc => ?_, fun buf r hproc hreply => ?_, fun buf m sent hproc => ?_, fun buf m sent k r hproc hreply => ?_⟩
  · exact hrun.step_proc hidle hproc
  · rw [hrun.step_proc hidle hproc, hreply]
    rfl
  · have hstep : step s = .next (sendFragment buf m sent s1) := hrun.step_proc hidle hproc
    refine ⟨fun hdone => ?_, fun hleft hm => ?_⟩
    · exact hstep.trans (congrArg _ (sendFragment_done s1 hdone))
    · exact hstep.trans (congrArg _ (sendFragment_next s1 hleft hm))
  · have hstep : step s = .next (sendReply buf m sent k r s1) := by rw [hrun.step_proc hidle hproc, hreply]; rfl
    refine ⟨fun hok => ?_, fun hfail hnone hcode => ?_, fun hfail hcount => ?_⟩
    · exact hstep.trans (congrArg _ (sendReply_success s1 hok))
    · exact hstep.trans (congrArg _ (sendReply_code s1 hfail hnone hcode))
    · exact hstep.trans (congrArg _ (sendReply_count s1 hfail hcount))

end Sys2Proof.Machine

/-! ## What the encoder and the decoder leave to the inputs and the ports -/

namespace Sys2Proof.Machine

section

variable {s t : State}

/-! ### Selection and the encoder: the block alone changes -/

theorem selectU_sameOutside (h : selectU s = some t) : SameOutside s t := by
  unfold selectU at h
  split_ifs at h
  all_goals cases h; exact .of_fields

theorem selectAck_sameOutside (h : selectAck s = some t) : SameOutside s t := by
  unfold selectAck at h
  split_ifs at h
  all_goals cases h; exact .of_fields

theorem selectNew_sameOutside (h : selectNew s = some t) : SameOutside s t := by
  unfold selectNew at h
  split at h
  · cases h
  · split at h
    · cases h
    · split at h
      · cases h
      · cases h; exact .of_fields

theorem selectRetx_sameOutside (h : selectRetx s = some t) : SameOutside s t := by
  unfold selectRetx at h
  split at h
  · cases h
  · split at h
    · cases h
    · cases h; exact .of_fields

theorem selectKeepAlive_sameOutside (h : selectKeepAlive s = some t) : SameOutside s t := by
  unfold selectKeepAlive at h
  split at h
  · cases h
  · cases h; exact .of_fields

theorem selectByPriority_sameOutside (h : selectByPriority s = some t) : SameOutside s t := by
  unfold selectByPriority at h
  split at h
  · next hu => cases h; exact (selectU_sameOutside hu).trans .of_fields
  split at h
  · split at h
    · next hu => cases h; exact (selectAck_sameOutside hu).trans .of_fields
    split at h
    · next hu => cases h; exact (selectNew_sameOutside hu).trans .of_fields
    split at h
    · next hu => cases h; exact (selectRetx_sameOutside hu).trans .of_fields
    · obtain ⟨u, hu, rfl⟩ := Option.map_eq_some_iff.mp h
      exact (selectKeepAlive_sameOutside hu).trans .of_fields
  · cases h

variable (s)

theorem timerPhase_sameOutside : SameOutside s (timerPhase s) := .of_fields

theorem selectFrame_sameOutside : SameOutside s (selectFrame s).1 := by
  unfold selectFrame
  split
  · next hu => exact (timerPhase_sameOutside s).trans (selectByPriority_sameOutside hu)
  · exact timerPhase_sameOutside s

theorem emitByte_sameOutside : SameOutside s (emitByte s).1 := by
  unfold emitByte
  dsimp only
  split
  · exact .refl s
  · exact .of_fields
  · split
    · exact .of_fields
    · exact .of_fields
  · exact .of_fields
  · exact .of_fields

theorem encodeStep_sameOutside : SameOutside s (encodeStep s).1 := by
  have hselect := selectFrame_sameOutside s
  unfold encodeStep
  split_ifs
  · have hstart : SameOutside (selectFrame s).1 (startFrame (selectFrame s).1) := .of_fields
    exact (hselect.trans hstart).trans (emitByte_sameOutside _)
  · exact hselect
  · exact emitByte_sameOutside s

/-! ### Completions: the channel of TXP is written, the inputs stay -/

theorem deliverHead_sameInputs : SameInputs s (deliverHead s) := by
  constructor <;> simp [deliverHead]

theorem deliverLoop_sameInputs (n : Nat) : SameInputs s (deliverLoop n s) := by
  induction n generalizing s with
  | zero => exact .refl s
  | succ n ih =>
    unfold deliverLoop
    split_ifs
    · exact (deliverHead_sameInputs s).trans (ih _)
    · exact .refl s

theorem deliverCompletions_sameInputs : SameInputs s (deliverCompletions s) := deliverLoop_sameInputs s _

/-! ### Received frames and the decoder: the channel of RXP is written, the inputs stay -/

theorem onFrame_sameInputs {k : State → State} (hk : ∀ t, SameInputs t (k t)) : SameInputs s (onFrame k s) := by
  unfold onFrame
  split_ifs
  · exact .refl s
  · exact SameInputs.trans (t := credited s) ⟨rfl, rfl, rfl⟩ (hk _)

theorem frmrTrigger_sameInputs : SameInputs s (frmrTrigger s) := by rw [frmrTrigger_eq]; exact ⟨rfl, rfl, rfl⟩

theorem noPayload_sameInputs {k : State → State} (hk : ∀ t, SameInputs t (k t)) : SameInputs s (noPayload k s) := by
  unfold noPayload
  split_ifs
  · exact hk s
  · exact frmrTrigger_sameInputs s

theorem whenConnected_sameInputs {k : State → State} (hk : ∀ t, SameInputs t (k t)) : SameInputs s (whenConnected k s) := by
  unfold whenConnected
  split_ifs
  · exact hk s
  · exact .refl s

theorem receiveI_sameInputs (ns : Seq) (pf : Bool) (nr : Seq) : SameInputs s (receiveI ns pf nr s) := by
  by_cases hns : ns = s.win.nextNr
  · rw [hns, receiveI_inSeq]; exact ⟨rfl, rfl, rfl⟩
  · rw [receiveI_outOfSeq s hns]; exact ⟨rfl, rfl, rfl⟩

theorem receiveRR_sameInputs (pf : Bool) (nr : Seq) : SameInputs s (receiveRR pf nr s) := by
  rw [receiveRR, setPeerBusy_processNR_owePoll]; exact ⟨rfl, rfl, rfl⟩

theorem receiveRNR_sameInputs (pf : Bool) (nr : Seq) : SameInputs s (receiveRNR pf nr s) := by
  rw [receiveRNR, setPeerBusy_processNR_owePoll]; exact ⟨rfl, rfl, rfl⟩

theorem receiveREJ_sameInputs (pf : Bool) (nr : Seq) : SameInputs s (receiveREJ pf nr s) := by
  by_cases hvalid : (nr - s.win.confirmNs).toNat ≤ (s.win.nextNs - s.win.confirmNs).toNat
  · rw [receiveREJ_valid pf hvalid]
    exact (receiveRR_sameInputs s pf nr).trans ⟨rfl, rfl, rfl⟩
  · rw [receiveREJ_invalid pf hvalid]
    exact receiveRR_sameInputs s pf nr

theorem rxSABM_sameInputs : SameInputs s (rxSABM s) := by rw [rxSABM_eq]; exact ⟨rfl, rfl, rfl⟩

theorem rxUA_sameInputs : SameInputs s (rxUA s) := by
  unfold rxUA
  split
  all_goals exact SameOutside.inputs .of_fields

theorem rxDISC_sameInputs : SameInputs s (rxDISC s) := by
  unfold rxDISC
  split
  all_goals exact SameOutside.inputs .of_fields

theorem receive_sameInputs (i : Instr) : SameInputs s (receive i s) := by
  cases i
  case iFrame ns pf nr =>
    exact onFrame_sameInputs s fun t => whenConnected_sameInputs t fun u => receiveI_sameInputs u ns pf nr
  case rr pf nr =>
    exact onFrame_sameInputs s fun t => noPayload_sameInputs t fun u => whenConnected_sameInputs u fun v =>
      receiveRR_sameInputs v pf nr
  case rej pf nr =>
    exact onFrame_sameInputs s fun t => noPayload_sameInputs t fun u => whenConnected_sameInputs u fun v =>
      receiveREJ_sameInputs v pf nr
  case rnr pf nr =>
    exact onFrame_sameInputs s fun t => noPayload_sameInputs t fun u => whenConnected_sameInputs u fun v =>
      receiveRNR_sameInputs v pf nr
  case sReserved => exact onFrame_sameInputs s frmrTrigger_sameInputs
  case sabm => exact onFrame_sameInputs s fun t => noPayload_sameInputs t rxSABM_sameInputs
  case ua => exact onFrame_sameInputs s fun t => noPayload_sameInputs t rxUA_sameInputs
  case disc => exact onFrame_sameInputs s fun t => noPayload_sameInputs t rxDISC_sameInputs
  case frmr => exact onFrame_sameInputs s .refl
  case uReserved => exact onFrame_sameInputs s frmrTrigger_sameInputs
  all_goals exact .refl s

theorem endOfFrame_sameInputs : SameInputs s (endOfFrame s) := by
  unfold endOfFrame processFrame
  split_ifs
  · exact .refl s
  · exact ⟨rfl, rfl, rfl⟩
  · exact receive_sameInputs s _
  · exact .refl s

theorem storeByte_sameInputs (v : Byte) : SameInputs s (storeByte v s) := by
  constructor <;> simp

theorem decodeByte_sameInputs (b : Byte) : SameInputs s (decodeByte b s) := by
  unfold decodeByte
  split
  · split_ifs <;> exact ⟨rfl, rfl, rfl⟩
  · split_ifs
    · exact (endOfFrame_sameInputs s).trans ⟨rfl, rfl, rfl⟩
    · exact ⟨rfl, rfl, rfl⟩
    · exact storeByte_sameInputs s b
  · split_ifs
    · exact ⟨rfl, rfl, rfl⟩
    · exact SameInputs.trans (t := s.modDec _) ⟨rfl, rfl, rfl⟩ (storeByte_sameInputs _ _)

end

end Sys2Proof.Machine

/-! ## The data path (R476–R479) -/

namespace Sys2Proof.Machine

section

variable {s : State} {left : BitVec 16} {dout : List Byte} {ended : Bool}

theorem txGetStep_ends (h : ended = true ∨ left = 0) :
    txGetStep left dout ended s = respond (BitVec.ofNat 32 dout.length) dout (deliverCompletions s) := by
  have hends : (ended || decide (left = 0)) = true := by simpa using h
  rw [txGetStep, if_pos hends, txEpilogue]

theorem txGetStep_goes (hended : ended = false) (hleft : left ≠ 0) : txGetStep left dout ended s = txOutput left dout s :=
  if_neg (by simpa [hended] using hleft)

theorem txOutput_closing (h : s.closing = true) : txOutput left dout s = setCmd (.txGet left dout true) s := if_pos h

theorem txOutput_none (hopen : s.closing = false) (h : (encodeStep s).2 = none) :
    txOutput left dout s = setCmd (.txGet left dout true) (encodeStep s).1 := by
  simp [txOutput, hopen, h]

theorem txOutput_byte (hopen : s.closing = false) {b : Byte} (h : (encodeStep s).2 = some b) :
    txOutput left dout s = setCmd (.txGet (left - 1) (dout ++ [b]) false) (encodeStep s).1 := by
  simp [txOutput, hopen, h]

end

/-- Settles O15: `cmdTxGet_running`. -/
theorem txGetPrologue : Obligations.TxGetPrologue := by
  intro s n hport hrunning
  let u := deliverCompletions (timerPhase s)
  have hinputs : SameInputs s u := (timerPhase_sameOutside s).inputs.trans (deliverCompletions_sameInputs _)
  exact ⟨_, congrArg Host.Outcome.next (cmdTxGet_running hport hrunning n), u.modPort_sameBlock _ _,
    hinputs.trans (u.modPort_sameInputs _ _), setCmd_nowBusy _ u⟩

/-- Settles O16: the epilogue (`txGetStep_ends`) and the three ends of an iteration of the loop; EncodeStep changes the block
alone (`encodeStep_sameOutside`). -/
theorem txGetGoesOn : Obligations.TxGetGoesOn := by
  intro s now rest q left dout ended hrun hcmd s1
  have hstep : step s = .next (txGetStep left dout ended s1) := hrun.step_cmd hcmd (by simp)
  have hloop (hended : ended = false) (hleft : left ≠ 0) : step s = .next (txOutput left dout s1) :=
    hstep.trans (congrArg _ (txGetStep_goes hended hleft))
  have hencode := encodeStep_sameOutside s1
  refine ⟨fun hends => ?_, fun hended hleft hclosing => ?_, fun hended hleft hopen hnone => ?_,
    fun b hended hleft hopen hbyte => ?_⟩
  · exact answers_of_next (hstep.trans (congrArg _ (txGetStep_ends hends)))
  · exact ⟨_, (hloop hended hleft).trans (congrArg _ (txOutput_closing (s := s1) hclosing)), (SameOutside.refl s1).setCmd _⟩
  · exact ⟨_, (hloop hended hleft).trans (congrArg _ (txOutput_none (s := s1) hopen hnone)), hencode.setCmd _⟩
  · exact ⟨_, (hloop hended hleft).trans (congrArg _ (txOutput_byte (s := s1) hopen hbyte)), hencode.setCmd _⟩

/-- Settles O17: acceptance, and one byte for DecodeByte at each step, which leaves the inputs (`decodeByte_sameInputs`). -/
theorem rxPutBytes : Obligations.RxPutBytes := by
  refine ⟨fun s din hport hrunning => ⟨fun hnone => ?_, fun hsome => ?_⟩, ?_⟩
  · exact answers_of_next (congrArg _ (cmdRxPut_nothingToDo hport hrunning.session (.inr hnone)))
  · exact ⟨_, congrArg Host.Outcome.next (cmdRxPut_bytes hport hrunning hsome), (SameOutside.refl s).setCmd _⟩
  · intro s now rest q b more hrun hcmd s1
    have hstep : step s = .next (rxPutStep (b :: more) s1) := hrun.step_cmd hcmd (by simp)
    refine ⟨fun hclosing => ?_, fun hopen hlast => ?_, fun hopen hmore => ?_⟩
    · exact answers_of_next (hstep.trans (congrArg _ (rxPutStep_closing (s := s1) hclosing b more)))
    · subst hlast
      exact answers_of_next (hstep.trans (congrArg _ (rxPutStep_last (s := s1) hopen b)))
    · let u := decodeByte b s1
      exact ⟨_, hstep.trans (congrArg _ (rxPutStep_more (s := s1) hopen b hmore)), u.modPort_sameBlock _ _,
        (decodeByte_sameInputs s1 b).trans (u.modPort_sameInputs _ _), setCmd_nowBusy _ u⟩

/-- Settles O18: the refusals, and the payload held (`cmdSendPacket_held`), with what EnterConnecting does
(`enterConnecting_eq`). -/
theorem sendPacketIssue : Obligations.SendPacketIssue := by
  intro s payload
  refine ⟨fun hrefused => ?_, fun a hport hsession => ⟨fun hclosing => ?_, fun hopen hlong => ?_, fun hopen hfits => ?_⟩⟩
  · obtain hport | huninit := hrefused
    · exact answers_of_next (congrArg _ (cmdSendPacket_wrongPort hport payload))
    · exact answers_of_next (congrArg _ (cmdSendPacket_uninit huninit payload))
  · exact answers_of_next (congrArg _ (cmdSendPacket_closing hport hsession hclosing))
  · exact answers_of_next (congrArg _ (cmdSendPacket_tooLarge hport hsession hopen hlong))
  · refine ⟨_, congrArg Host.Outcome.next (cmdSendPacket_held hport hsession hopen hfits), ?_⟩
    by_cases hdisc : s.fsm = .disconnected
    · rw [if_pos hdisc]
      have hblock : SameOutside s (enterConnecting s) := .of_fields
      obtain ⟨hsame, hinputs, hbusy⟩ := hblock.setCmd (.sendPacket payload s.now s.ctr.failGen)
      exact ⟨hinputs, hbusy, fun hne => absurd hdisc hne, fun _ => hsame⟩
    · rw [if_neg hdisc]
      obtain ⟨hsame, hinputs, hbusy⟩ := (SameOutside.refl s).setCmd (.sendPacket payload s.now s.ctr.failGen)
      exact ⟨hinputs, hbusy, fun _ => hsame, fun heq => absurd heq hdisc⟩

/-- Settles O19: the cases A, B and C of R479 in their order. -/
theorem sendPacketCompletion : Obligations.SendPacketCompletion := by
  intro s p now rest q payload tIssue gen hrun hcmd s1 cancelled room late
  have hstep : step s = .next (sendPacketStep payload tIssue gen s1) := hrun.step_cmd hcmd (by simp)
  have hroom : s1.ring.count.toNat < s1.w ∧ s1.admission = true ↔ room := and_congr_right' s1.admit_iff
  have hlate : expired tIssue s1.now s1.eff.sendTimeout = true ↔ late := expired_iff _ _ _
  refine ⟨fun hc => ?_, fun hc hr => ?_, fun hc hr hl => ?_, fun hc hr hl => ?_⟩
  · exact answers_of_next (hstep.trans (congrArg _ (sendPacketStep_cancelled hc)))
  · exact answers_of_next (hstep.trans (congrArg _ (sendPacketStep_room hc (hroom.mpr hr))))
  · exact answers_of_next (hstep.trans (congrArg _ (sendPacketStep_late hc (mt hroom.mp hr) (hlate.mpr hl))))
  · exact hstep.trans (congrArg _ (sendPacketStep_waits hc (mt hroom.mp hr) (mt hlate.mp hl)))

end Sys2Proof.Machine

/-! ## The register file (R137–R139, R483, R484) -/

namespace Sys2Proof.Machine

/-! ### Fields -/

/-- A field is its value times the weight of its lowest bit, modulo 2^32. -/
theorem field_eq_ofNat {w : Nat} (v : BitVec w) (lo : Nat) : field v lo = BitVec.ofNat 32 (v.toNat * 2 ^ lo) := by
  apply BitVec.eq_of_toNat_eq
  simp [field, Nat.shiftLeft_eq]

theorem bit_eq_ofNat (b : Bool) (lo : Nat) : bit b lo = BitVec.ofNat 32 (b.toNat * 2 ^ lo) := by
  rw [bit, field_eq_ofNat, BitVec.toNat_ofBool]

/-- The low `w` bits of a word, placed at bit 0, are the word masked. -/
theorem field_lowBits (v : Word) (w : Nat) (hw : w ≤ 32) : field (v.extractLsb' 0 w) 0 = v &&& BitVec.ofNat 32 (2 ^ w - 1) := by
  have hpow : 2 ^ w ≤ 2 ^ 32 := Nat.pow_le_pow_right (by decide) hw
  have hmask : 2 ^ w - 1 < 2 ^ 32 := by have := Nat.two_pow_pos w; omega
  have hlow : v.toNat % 2 ^ w < 2 ^ 32 := (Nat.mod_lt _ (Nat.two_pow_pos w)).trans_le hpow
  apply BitVec.eq_of_toNat_eq
  rw [field_eq_ofNat, BitVec.toNat_ofNat, BitVec.toNat_and, BitVec.toNat_ofNat, Nat.mod_eq_of_lt hmask,
    Nat.and_two_pow_sub_one_eq_mod, BitVec.extractLsb'_toNat, Nat.shiftRight_zero, Nat.pow_zero, Nat.mul_one,
    Nat.mod_eq_of_lt hlow]

theorem bit_lowBit (v : Word) : bit (v.getLsbD 0) 0 = v &&& 1 := by
  have hbit : BitVec.ofBool (v.getLsbD 0) = v.extractLsb' 0 1 := by
    apply BitVec.eq_of_getLsbD_eq
    intro i hi
    obtain rfl : i = 0 := by omega
    simp
  rw [bit, hbit]
  exact field_lowBits v 1 (by decide)

/-! ### The numbers of the registers -/

/-- The numbers of the CFG registers (R137). -/
def cfgNumbers : List Byte := [0x00, 0x01, 0x02, 0x03, 0x04, 0x05, 0x06, 0x07, 0x08]

/-- The numbers of the registers (R137). -/
def registerNumbers : List Byte :=
  cfgNumbers ++ [0x10, 0x11, 0x12, 0x13, 0x14, 0x15, 0x16, 0x17, 0x18] ++ [0x20, 0x21, 0x22, 0x23] ++
    [0x24, 0x25, 0x26, 0x27, 0x28, 0x29, 0x2A, 0x2B, 0x2C] ++ [0x30, 0x31, 0x32, 0x33, 0x34, 0x35, 0x36] ++
    [0x38, 0x39, 0x3A, 0x3B, 0x3C, 0x3D, 0x3E]

/-- Which numbers name a register does not depend on the state, so it is a finite fact about one state. -/
theorem State.readRegister_isSome (s : State) (n : Byte) : (s.readRegister n).isSome = decide (n ∈ registerNumbers) := by
  have hreset : ∀ n, (State.reset.readRegister n).isSome = decide (n ∈ registerNumbers) := by decide +kernel
  have hstate : (s.readRegister n).isSome = (State.reset.readRegister n).isSome := by
    unfold State.readRegister
    split <;> rfl
  exact hstate.trans (hreset n)

/-- Which numbers name a CFG register does not depend on its value and on ARG. -/
theorem Cfg.write_isSome (c : Cfg) (n : Byte) (v : Word) : (c.write n v).isSome = decide (n ∈ cfgNumbers) := by
  have hreset : ∀ n, (Cfg.reset.write n 0).isSome = decide (n ∈ cfgNumbers) := by decide +kernel
  have hvalue : (c.write n v).isSome = (Cfg.reset.write n 0).isSome := by
    unfold Cfg.write
    split <;> rfl
  exact hvalue.trans (hreset n)

/-- The CFG registers are read from CFG. -/
theorem readRegister_congr {s t : State} (h : t.cfg = s.cfg) {n : Byte} (hn : n ∈ cfgNumbers) :
    t.readRegister n = s.readRegister n := by
  simp only [cfgNumbers, List.mem_cons, List.not_mem_nil, or_false] at hn
  obtain rfl | rfl | rfl | rfl | rfl | rfl | rfl | rfl | rfl := hn
  all_goals simp [State.readRegister, h]

/-- The register file: each number with the value a read gives. -/
def State.registerRows (s : State) : List (Byte × Word) :=
  registerNumbers.filterMap (fun n => (s.readRegister n).map (Prod.mk n))

theorem State.mem_registerRows {s : State} {n : Byte} {v : Word} : (n, v) ∈ s.registerRows ↔ s.readRegister n = some v := by
  simp only [State.registerRows, List.mem_filterMap, Option.map_eq_some_iff, Prod.mk.injEq]
  constructor
  · rintro ⟨n, -, v, hread, rfl, rfl⟩
    exact hread
  · intro hread
    have hn := s.readRegister_isSome n
    rw [hread, Option.isSome_some] at hn
    exact ⟨n, of_decide_eq_true hn.symm, v, hread, rfl, rfl⟩

/-! ### READ_REG and WRITE_REG -/

section

variable {s : State} {n : Byte}

theorem cmdReadReg_some {v : Word} (h : s.readRegister n = some v) :
    cmdReadReg n s =
      respond Res.success [v.extractLsb' 0 8, v.extractLsb' 8 8, v.extractLsb' 16 8, v.extractLsb' 24 8] s := by
  rw [cmdReadReg, h]
  rfl

theorem cmdReadReg_none (h : s.readRegister n = none) : cmdReadReg n s = refuse Res.invalidData s := by
  rw [cmdReadReg, h]

theorem cmdWriteReg_some {v : Word} {c : Cfg} (h : s.cfg.write n v = some c) :
    cmdWriteReg n v s = respond Res.success [] { s with cfg := c } := by
  rw [cmdWriteReg, h]

theorem cmdWriteReg_none {v : Word} (h : s.cfg.write n v = none) : cmdWriteReg n v s = refuse Res.invalidData s := by
  rw [cmdWriteReg, h]

end

/-- Settles O46: the table is the register file (`State.mem_registerRows`), its fields written by `field` and `bit`. -/
theorem readRegister : Obligations.ReadRegister := by
  intro s f b fsmCode slotCode decCode encCode slotReg table
  have hf {w : Nat} (v : BitVec w) (lo : Nat) : f v.toNat lo = field v lo := (field_eq_ofNat v lo).symm
  have hb (x : Bool) (lo : Nat) : b x lo = bit x lo := (bit_eq_ofNat x lo).symm
  have hfsm (x : Fsm) : fsmCode x = x.code.toNat := by cases x <;> rfl
  have hslot (x : SlotState) : slotCode x = x.code.toNat := by cases x <;> rfl
  have hdec (x : DecState) : decCode x = x.code.toNat := by cases x <;> rfl
  have henc (x : EncPhase) : encCode x = x.code.toNat := by cases x <;> rfl
  have hslotReg (i : Nat) : slotReg i = s.slotReg i := by simp only [slotReg, hslot, hf]; rfl
  have htable : table = s.registerRows := by
    simp only [table, hf, hb, hfsm, hdec, henc, hslotReg]
    rfl
  rw [htable]
  refine ⟨fun n v hmem => ?_, fun n hreserved => ?_⟩
  · exact answers_of_next (congrArg _ (cmdReadReg_some (State.mem_registerRows.mp hmem)))
  · have hnone : s.readRegister n = none := Option.eq_none_iff_forall_ne_some.mpr
      fun v hread => hreserved v (State.mem_registerRows.mpr hread)
    exact answers_of_next (congrArg _ (cmdReadReg_none hnone))

/-- Settles O47: each row of the table is what `Cfg.write` stores and what a read of it gives back (`readRegister_congr`). -/
theorem writeRegister : Obligations.WriteRegister := by
  intro s n v c table
  have hrows : ∀ row ∈ table,
      c.write row.1 v = some row.2.1 ∧ State.readRegister { s with cfg := row.2.1 } row.1 = some row.2.2 := by
    simp only [table, List.forall_mem_cons, List.not_mem_nil, false_implies, implies_true, and_true]
    exact ⟨⟨rfl, congrArg some (field_lowBits v 16 (by decide))⟩, ⟨rfl, congrArg some (field_lowBits v 3 (by decide))⟩,
      ⟨rfl, congrArg some (field_lowBits v 8 (by decide))⟩, ⟨rfl, rfl⟩, ⟨rfl, rfl⟩,
      ⟨rfl, congrArg some (field_lowBits v 8 (by decide))⟩, ⟨rfl, rfl⟩, ⟨rfl, rfl⟩, ⟨rfl, congrArg some (bit_lowBit v)⟩⟩
  have hnumbers : table.map Prod.fst = cfgNumbers := rfl
  refine ⟨fun c' masked hmem => ?_, fun hreserved => ?_⟩
  · obtain ⟨hwrite, hread⟩ := hrows _ hmem
    have hn : n ∈ cfgNumbers := hnumbers ▸ List.mem_map_of_mem (f := Prod.fst) hmem
    let t := respond Res.success [] { s with cfg := c' }
    have ht : t.readRegister n = some masked := (readRegister_congr (respond_cfg _ _ _) hn).trans hread
    exact ⟨t, congrArg _ (cmdWriteReg_some hwrite), respond_answeredOnly _ _ _,
      answers_of_next (congrArg _ (cmdReadReg_some ht))⟩
  · have hnone : s.cfg.write n v = none := by
      rw [← Option.isNone_iff_eq_none, ← Option.not_isSome, Cfg.write_isSome, ← hnumbers]
      simpa using hreserved
    exact answers_of_next (congrArg _ (cmdWriteReg_none hnone))

end Sys2Proof.Machine
